-- ==== Sys2Proof/Word.lean ====
section
/-! DEFINITION. The words of X_FIRE: the fixed widths of spec/00_scope.md R5, R6 and R7. -/

namespace Sys2Proof

/-- A byte of memory (spec/00_scope.md R6). -/
abbrev Byte := BitVec 8

/-- A 32-bit word: a general purpose or floating point register, an instruction word (R5, R6). -/
abbrev Word := BitVec 32

/-- A 64-bit long or double: an even-odd register pair, the odd register holding bits 63..32
(spec/10_state.md R21, R26). -/
abbrev Long := BitVec 64

/-- A 5-bit register field: a GPR, FPR or special register number (spec/30_encoding.md R116). -/
abbrev RegNum := BitVec 5

/-- A 30-bit word index of the instruction memory, the type of PC (spec/10_state.md R35). -/
abbrev WordIdx := BitVec 30

/-- A 36-bit link register (spec/10_state.md R55). -/
abbrev Link := BitVec 36

end Sys2Proof
end

