-- ==== Sys2Proof/Config.lean ====
section
/-! DEFINITION. What an implementation of X_FIRE fixes (spec/00_scope.md R5) and the values the spec
leaves open (spec/93_implementation_defined.md). Options with a stated behaviour for each choice are plain
data (`Params`), held in State so that a statement about every state covers every choice. Values the spec
does not determine are constants without a body: nothing can evaluate them. -/

namespace Sys2Proof.Config

/-- `UNDEF_BITS_POLICY`, the treatment of non-zero undefined encoding bits (R5, spec/30_encoding.md R119, D6). -/
inductive UndefBits where
  | refuse
  | ignore
  | raiseE2
deriving DecidableEq, Repr

/-- `J_DISP_BITS`, how many low bits of a `j` word form the displacement (R5, spec/30_encoding.md R118, D2). -/
inductive JDispBits where
  | bits26
  | bits28
deriving DecidableEq, Repr

/-- `MULT_L_MODE`, the reading of mult.l (R5, spec/42_arithmetic.md R277, D17). -/
inductive MultLMode where
  | pairByPair
  | wordByWord
deriving DecidableEq, Repr

/-- `ASYNC_RETURN`, the return index saved for an asynchronous cause (R5, spec/92_eei_decisions.md D10, U12). -/
inductive AsyncReturn where
  | nextPc
  | lastPcPlus1
deriving DecidableEq, Repr

/-- A range of byte addresses that holds memory. -/
structure Region where
  base : Nat
  size : Nat
deriving DecidableEq, Repr

/-- The implementation parameters of R5 that choose between behaviours the spec states. -/
structure Params where
  /-- `HAS_FPU`: the floating point unit is present. -/
  hasFpu : Bool
  /-- `HAS_LRS`: L1..L31 and ESP are present. -/
  hasLrs : Bool
  /-- `HAS_CORDIC`: the cordic instructions are implemented. -/
  hasCordic : Bool
  /-- `J_DISP_BITS`. -/
  jDispBits : JDispBits
  /-- `OP_LOADI`, `OP_LOADUI`, `OP_LHI`: the three Type 1 opcodes whose coding lines are lost (D3). -/
  opLoadi : BitVec 4
  opLoadui : BitVec 4
  opLhi : BitVec 4
  /-- `UNDEF_BITS_POLICY`. -/
  undefBits : UndefBits
  /-- `DIV_SIGNED`: signedness of div and rem (D15). -/
  divSigned : Bool
  /-- `MULT_L_MODE`. -/
  multLMode : MultLMode
  /-- `ASYNC_RETURN`. -/
  asyncReturn : AsyncReturn
  /-- `DM_POPULATED`: the data addresses that hold memory (spec/20_memory.md R93). -/
  dmPopulated : List Region
deriving DecidableEq, Repr

/-- The choices of the state after reset: the defaults of spec/92_eei_decisions.md (D2, D3, D6, D10, D15, D17); every
optional unit present and the whole data space populated where it gives no default (DESIGN CHOICE, log 1). -/
def Params.standard : Params where
  hasFpu := true
  hasLrs := true
  hasCordic := true
  jDispBits := .bits26
  opLoadi := 0b0011#4
  opLoadui := 0b0100#4
  opLhi := 0b0101#4
  undefBits := .refuse
  divSigned := true
  multLMode := .pairByPair
  asyncReturn := .nextPc
  dmPopulated := [⟨0, 2 ^ 32⟩]

/-- The three recovered opcodes are distinct and none is 0000, 0001 or 0010, which jr, jal and the branches
have (spec/30_encoding.md R121). -/
def Params.opcodesDistinct (p : Params) : Bool :=
  2 < p.opLoadi.toNat && 2 < p.opLoadui.toNat && 2 < p.opLhi.toNat
    && p.opLoadi != p.opLoadui && p.opLoadi != p.opLhi && p.opLoadui != p.opLhi

/-- The V field, the data form of an instruction (spec/30_encoding.md R115). -/
inductive Fmt where
  | w | l | f | d
deriving DecidableEq, Repr

/-- The bits of one operand of that form. -/
abbrev Fmt.width : Fmt → Nat
  | .w => 32
  | .l => 64
  | .f => 32
  | .d => 64

/-- The rounding modes of CFG[5:4] (spec/10_state.md R38). -/
inductive Rnd where
  | rn | rz | rp | rm
deriving DecidableEq, Repr

/-- The integer operations whose carry and overflow the spec leaves to `ALU_CV` (spec/42_arithmetic.md R261). -/
inductive AluOp where
  | mult | div | rem | rl | rr | sl | sra | srl | inv | and | or | xor
deriving DecidableEq, Repr

/-- The functions of `CORDIC1` (spec/43_cordic_2op.md R310). -/
inductive Cordic1Fn where
  | cos | cosh | sin | sinh | sqrt1msq | sqrt1psq | atan | atanh | ln | sqrt
deriving DecidableEq, Repr

/-- The functions of `CORDIC2` (spec/44_cordic_3op.md R360). -/
inductive Cordic2Fn where
  | pol2recx | pol2recy | hyp2recx | hyp2recy | norm | atan2
deriving DecidableEq, Repr

/-- The kinds of `CNV` (spec/47_conversion.md R450). -/
inductive CnvKind where
  | f2d | d2f | f2w | w2f | d2w | w2d | f2l | l2f | d2l | l2d
deriving DecidableEq, Repr

/-- `ALU_CV(operation, N, x, y)` as the two bits c # v (R261, D13; free value, log 8). -/
opaque aluCV : AluOp → (n : Nat) → BitVec n → BitVec n → BitVec 2

/-- `SUB_CARRY_IS_BORROW`, which has no default (R261, D13, U5; free value, log 9). -/
opaque subCarryIsBorrow : Bool

/-- Whether mult.l in its word-by-word reading multiplies signed words; the spec gives that reading without a
signedness (spec/90_conflicts.md C22, D15, U6; free value, log 19). -/
opaque multLWordSigned : Bool

/-- `CORDIC1(fn, fmt, x, rnd)`: the result and c # v (R310, D22; free value, log 11). -/
opaque cordic1 : Cordic1Fn → (fmt : Fmt) → BitVec fmt.width → Rnd → BitVec fmt.width × BitVec 2

/-- `CORDIC2(fn, fmt, a, b, rnd)`: the result and c # v (spec/44_cordic_3op.md R360, D22; free value, log 11). -/
opaque cordic2 :
  Cordic2Fn → (fmt : Fmt) → BitVec fmt.width → BitVec fmt.width → Rnd → BitVec fmt.width × BitVec 2

/-- The result of `CNV` outside constraint E, in the low bits (spec/47_conversion.md R450, D21; free value, log 10). A
32-bit source stands zero-extended. -/
opaque cnvRes : CnvKind → Long → Rnd → Long

/-- The c # v output of `CNV` (R450, R452; free value, log 10). -/
opaque cnvCV : CnvKind → Long → Rnd → BitVec 2

/-- `UNSPEC(3)`: the three stored flags of the even register after a 64-bit write-back, drawn afresh at each
write (spec/10_state.md R25, R28, U4; free value, log 7). The argument is State's counter of draws. -/
opaque unspecFlags : Nat → BitVec 3

/-- The sign and the 22 free fraction bits of a binary32 NaN result (spec/42_arithmetic.md R263, U10, D42; free value, log 12). -/
opaque nanBits32 : Nat → BitVec 23

/-- The sign and the 51 free fraction bits of a binary64 NaN result (R263, U10, D42; free value, log 12). -/
opaque nanBits64 : Nat → BitVec 52

/-- Whether the FPU detects tininess before rounding; IEEE 754 allows both and the spec says nothing (91 N16;
free value, log 14). -/
opaque tinyBeforeRounding : Bool

/-- What a byte of data memory holds at power-up (spec/20_memory.md R93, U13; free value, log 4). -/
opaque powerUpByte : Nat → Byte

end Sys2Proof.Config
end

