-- ==== Sys2Proof/Syntax.lean ====
section
/-! DEFINITION. The instructions of X_FIRE: one constructor for each of the 163 rows of spec/opcode_table.json, in
the table's families. Operands stand in the assembler's order, destination first (spec/30_encoding.md R140, R141); a
register field is its 5-bit number, an immediate or a displacement the bits of its field (R116 to R118). -/

namespace Sys2Proof

/-- One instruction with its operand fields. -/
inductive Instr where
  -- register data transfer (spec/40_register_transfer.md)
  /-- `mov.w` (R200) -/
  | movW (dst src : RegNum)
  /-- `mov.l` (R201) -/
  | movL (dst src : RegNum)
  /-- `mov.f` (R202) -/
  | movF (dst src : RegNum)
  /-- `mov.d` (R203) -/
  | movD (dst src : RegNum)
  /-- `movf2w` (R204) -/
  | movf2w (dst src : RegNum)
  /-- `movw2f` (R205) -/
  | movw2f (dst src : RegNum)
  /-- `movd2l` (R206) -/
  | movd2l (dst src : RegNum)
  /-- `movl2d` (R207) -/
  | movl2d (dst src : RegNum)
  /-- `movw2s` (R208) -/
  | movw2s (sdst src : RegNum)
  /-- `movs2w` (R209) -/
  | movs2w (dst ssrc : RegNum)
  /-- `movn2fg.g` (R211) -/
  | movn2fgG (dst src : RegNum) (nib : BitVec 3)
  /-- `movfg2n.g` (R212) -/
  | movfg2nG (dst src : RegNum) (nib : BitVec 3)
  /-- `movn2fg.f` (R213) -/
  | movn2fgF (dst src : RegNum) (nib : BitVec 3)
  /-- `movfg2n.f` (R214) -/
  | movfg2nF (dst src : RegNum) (nib : BitVec 3)
  -- memory data transfer (spec/41_memory_transfer.md)
  /-- `loadi` (R230) -/
  | loadi (dst : RegNum) (imm : BitVec 16)
  /-- `loadui` (R231) -/
  | loadui (dst : RegNum) (imm : BitVec 16)
  /-- `lhi` (R232) -/
  | lhi (dst : RegNum) (imm : BitVec 16)
  /-- `load.b` (R234) -/
  | loadB (dst base : RegNum) (dis : BitVec 16)
  /-- `loadu.b` (R235) -/
  | loaduB (dst base : RegNum) (dis : BitVec 16)
  /-- `load.h` (R236) -/
  | loadH (dst base : RegNum) (dis : BitVec 16)
  /-- `loadu.h` (R237) -/
  | loaduH (dst base : RegNum) (dis : BitVec 16)
  /-- `load.w` (R238) -/
  | loadW (dst base : RegNum) (dis : BitVec 16)
  /-- `load.f` (R239) -/
  | loadF (dst base : RegNum) (dis : BitVec 16)
  /-- `store.b` (R240) -/
  | storeB (data base : RegNum) (dis : BitVec 16)
  /-- `store.h` (R241) -/
  | storeH (data base : RegNum) (dis : BitVec 16)
  /-- `store.w` (R242) -/
  | storeW (data base : RegNum) (dis : BitVec 16)
  /-- `store.f` (R243) -/
  | storeF (data base : RegNum) (dis : BitVec 16)
  -- arithmetic (spec/42_arithmetic.md)
  /-- `addi.w` (R264) -/
  | addiW (dst src : RegNum) (imm : BitVec 16)
  /-- `addui.w` (R265) -/
  | adduiW (dst src : RegNum) (imm : BitVec 16)
  /-- `subi.w` (R266) -/
  | subiW (dst src : RegNum) (imm : BitVec 16)
  /-- `subui.w` (R267) -/
  | subuiW (dst src : RegNum) (imm : BitVec 16)
  /-- `add.w` (R268) -/
  | addW (dst s1 s2 : RegNum)
  /-- `add.l` (R269) -/
  | addL (dst s1 s2 : RegNum)
  /-- `add.f` (R270) -/
  | addF (dst s1 s2 : RegNum)
  /-- `add.d` (R271) -/
  | addD (dst s1 s2 : RegNum)
  /-- `sub.w` (R272) -/
  | subW (dst s1 s2 : RegNum)
  /-- `sub.l` (R273) -/
  | subL (dst s1 s2 : RegNum)
  /-- `sub.f` (R274) -/
  | subF (dst s1 s2 : RegNum)
  /-- `sub.d` (R275) -/
  | subD (dst s1 s2 : RegNum)
  /-- `mult.w` (R276) -/
  | multW (dst s1 s2 : RegNum)
  /-- `mult.l` (R277) -/
  | multL (dst s1 s2 : RegNum)
  /-- `mult.f` (R278) -/
  | multF (dst s1 s2 : RegNum)
  /-- `mult.d` (R279) -/
  | multD (dst s1 s2 : RegNum)
  /-- `div.w` (R280) -/
  | divW (dst s1 s2 : RegNum)
  /-- `div.l` (R281) -/
  | divL (dst s1 s2 : RegNum)
  /-- `div.f` (R282) -/
  | divF (dst s1 s2 : RegNum)
  /-- `div.d` (R283) -/
  | divD (dst s1 s2 : RegNum)
  /-- `rem.w` (R284) -/
  | remW (dst s1 s2 : RegNum)
  /-- `rem.l` (R285) -/
  | remL (dst s1 s2 : RegNum)
  /-- `rl.w` (R286) -/
  | rlW (dst s1 s2 : RegNum)
  /-- `rl.l` (R287) -/
  | rlL (dst s1 s2 : RegNum)
  /-- `rr.w` (R288) -/
  | rrW (dst s1 s2 : RegNum)
  /-- `rr.l` (R289) -/
  | rrL (dst s1 s2 : RegNum)
  /-- `sl.w` (R290) -/
  | slW (dst s1 s2 : RegNum)
  /-- `sl.l` (R291) -/
  | slL (dst s1 s2 : RegNum)
  /-- `sra.w` (R292) -/
  | sraW (dst s1 s2 : RegNum)
  /-- `sra.l` (R293) -/
  | sraL (dst s1 s2 : RegNum)
  -- cordic, one source (spec/43_cordic_2op.md)
  /-- `cos.w` (R315) -/
  | cosW (dst src : RegNum)
  /-- `cos.l` (R316) -/
  | cosL (dst src : RegNum)
  /-- `cos.f` (R317) -/
  | cosF (dst src : RegNum)
  /-- `cos.d` (R318) -/
  | cosD (dst src : RegNum)
  /-- `cosh.w` (R319) -/
  | coshW (dst src : RegNum)
  /-- `cosh.l` (R320) -/
  | coshL (dst src : RegNum)
  /-- `cosh.f` (R321) -/
  | coshF (dst src : RegNum)
  /-- `cosh.d` (R322) -/
  | coshD (dst src : RegNum)
  /-- `sin.w` (R323) -/
  | sinW (dst src : RegNum)
  /-- `sin.l` (R324) -/
  | sinL (dst src : RegNum)
  /-- `sin.f` (R325) -/
  | sinF (dst src : RegNum)
  /-- `sin.d` (R326) -/
  | sinD (dst src : RegNum)
  /-- `sinh.w` (R327) -/
  | sinhW (dst src : RegNum)
  /-- `sinh.l` (R328) -/
  | sinhL (dst src : RegNum)
  /-- `sinh.f` (R329) -/
  | sinhF (dst src : RegNum)
  /-- `sinh.d` (R330) -/
  | sinhD (dst src : RegNum)
  /-- `sqrt1msq.w` (R331) -/
  | sqrt1msqW (dst src : RegNum)
  /-- `sqrt1msq.l` (R332) -/
  | sqrt1msqL (dst src : RegNum)
  /-- `sqrt1msq.f` (R333) -/
  | sqrt1msqF (dst src : RegNum)
  /-- `sqrt1msq.d` (R334) -/
  | sqrt1msqD (dst src : RegNum)
  /-- `sqrt1psq.w` (R335) -/
  | sqrt1psqW (dst src : RegNum)
  /-- `sqrt1psq.l` (R336) -/
  | sqrt1psqL (dst src : RegNum)
  /-- `sqrt1psq.f` (R337) -/
  | sqrt1psqF (dst src : RegNum)
  /-- `sqrt1psq.d` (R338) -/
  | sqrt1psqD (dst src : RegNum)
  /-- `atan.w` (R339) -/
  | atanW (dst src : RegNum)
  /-- `atan.l` (R340) -/
  | atanL (dst src : RegNum)
  /-- `atan.f` (R341) -/
  | atanF (dst src : RegNum)
  /-- `atan.d` (R342) -/
  | atanD (dst src : RegNum)
  /-- `atanh.w` (R343) -/
  | atanhW (dst src : RegNum)
  /-- `atanh.l` (R344) -/
  | atanhL (dst src : RegNum)
  /-- `atanh.f` (R345) -/
  | atanhF (dst src : RegNum)
  /-- `atanh.d` (R346) -/
  | atanhD (dst src : RegNum)
  /-- `ln.w` (R347) -/
  | lnW (dst src : RegNum)
  /-- `ln.l` (R348) -/
  | lnL (dst src : RegNum)
  /-- `ln.f` (R349) -/
  | lnF (dst src : RegNum)
  /-- `ln.d` (R350) -/
  | lnD (dst src : RegNum)
  /-- `sqrt.w` (R351) -/
  | sqrtW (dst src : RegNum)
  /-- `sqrt.l` (R352) -/
  | sqrtL (dst src : RegNum)
  /-- `sqrt.f` (R353) -/
  | sqrtF (dst src : RegNum)
  /-- `sqrt.d` (R354) -/
  | sqrtD (dst src : RegNum)
  -- cordic, two sources (spec/44_cordic_3op.md)
  /-- `pol2recx.w` (R365) -/
  | pol2recxW (dst s1 s2 : RegNum)
  /-- `pol2recx.l` (R366) -/
  | pol2recxL (dst s1 s2 : RegNum)
  /-- `pol2recx.f` (R367) -/
  | pol2recxF (dst s1 s2 : RegNum)
  /-- `pol2recx.d` (R368) -/
  | pol2recxD (dst s1 s2 : RegNum)
  /-- `pol2recy.w` (R369) -/
  | pol2recyW (dst s1 s2 : RegNum)
  /-- `pol2recy.l` (R370) -/
  | pol2recyL (dst s1 s2 : RegNum)
  /-- `pol2recy.f` (R371) -/
  | pol2recyF (dst s1 s2 : RegNum)
  /-- `pol2recy.d` (R372) -/
  | pol2recyD (dst s1 s2 : RegNum)
  /-- `hyp2recx.w` (R373) -/
  | hyp2recxW (dst s1 s2 : RegNum)
  /-- `hyp2recx.l` (R374) -/
  | hyp2recxL (dst s1 s2 : RegNum)
  /-- `hyp2recx.f` (R375) -/
  | hyp2recxF (dst s1 s2 : RegNum)
  /-- `hyp2recx.d` (R376) -/
  | hyp2recxD (dst s1 s2 : RegNum)
  /-- `hyp2recy.w` (R377) -/
  | hyp2recyW (dst s1 s2 : RegNum)
  /-- `hyp2recy.l` (R378) -/
  | hyp2recyL (dst s1 s2 : RegNum)
  /-- `hyp2recy.f` (R379) -/
  | hyp2recyF (dst s1 s2 : RegNum)
  /-- `hyp2recy.d` (R380) -/
  | hyp2recyD (dst s1 s2 : RegNum)
  /-- `norm.w` (R381) -/
  | normW (dst s1 s2 : RegNum)
  /-- `norm.l` (R382) -/
  | normL (dst s1 s2 : RegNum)
  /-- `norm.f` (R383) -/
  | normF (dst s1 s2 : RegNum)
  /-- `norm.d` (R384) -/
  | normD (dst s1 s2 : RegNum)
  /-- `atan2.w` (R385) -/
  | atan2W (dst s1 s2 : RegNum)
  /-- `atan2.l` (R386) -/
  | atan2L (dst s1 s2 : RegNum)
  /-- `atan2.f` (R387) -/
  | atan2F (dst s1 s2 : RegNum)
  /-- `atan2.d` (R388) -/
  | atan2D (dst s1 s2 : RegNum)
  -- logic (spec/45_logic.md)
  /-- `inv.w` (R391) -/
  | invW (dst src : RegNum)
  /-- `inv.l` (R392) -/
  | invL (dst src : RegNum)
  /-- `and.w` (R393) -/
  | andW (dst s1 s2 : RegNum)
  /-- `and.l` (R394) -/
  | andL (dst s1 s2 : RegNum)
  /-- `or.w` (R395) -/
  | orW (dst s1 s2 : RegNum)
  /-- `or.l` (R396) -/
  | orL (dst s1 s2 : RegNum)
  /-- `xor.w` (R397) -/
  | xorW (dst s1 s2 : RegNum)
  /-- `xor.l` (R398) -/
  | xorL (dst s1 s2 : RegNum)
  /-- `srl.w` (R399) -/
  | srlW (dst s1 s2 : RegNum)
  /-- `srl.l` (R400) -/
  | srlL (dst s1 s2 : RegNum)
  -- control (spec/46_control.md)
  /-- `j` (R410) -/
  | j (dis : BitVec 28)
  /-- `trap` (R411) -/
  | trap
  /-- `rfe` (R412) -/
  | rfe
  /-- `jr` (R413) -/
  | jr (src : RegNum)
  /-- `jal` (R414) -/
  | jal (dst : RegNum) (dis : BitVec 16)
  /-- `jral` (R415) -/
  | jral (dst src : RegNum)
  /-- `bc` (R417) -/
  | bc (src : RegNum) (dis : BitVec 17)
  /-- `bv` (R418) -/
  | bv (src : RegNum) (dis : BitVec 17)
  /-- `bz` (R419) -/
  | bz (src : RegNum) (dis : BitVec 17)
  /-- `bn` (R420) -/
  | bn (src : RegNum) (dis : BitVec 17)
  /-- `bnc` (R421) -/
  | bnc (src : RegNum) (dis : BitVec 17)
  /-- `bnv` (R422) -/
  | bnv (src : RegNum) (dis : BitVec 17)
  /-- `bnz` (R423) -/
  | bnz (src : RegNum) (dis : BitVec 17)
  /-- `bnn` (R424) -/
  | bnn (src : RegNum) (dis : BitVec 17)
  /-- `bfpan` (R425) -/
  | bfpan (src : RegNum) (dis : BitVec 17)
  /-- `bfpinf` (R426) -/
  | bfpinf (src : RegNum) (dis : BitVec 17)
  /-- `bfpz` (R427) -/
  | bfpz (src : RegNum) (dis : BitVec 17)
  /-- `bfpn` (R428) -/
  | bfpn (src : RegNum) (dis : BitVec 17)
  /-- `bfpnan` (R429) -/
  | bfpnan (src : RegNum) (dis : BitVec 17)
  /-- `bfpninf` (R430) -/
  | bfpninf (src : RegNum) (dis : BitVec 17)
  /-- `bfpnz` (R431) -/
  | bfpnz (src : RegNum) (dis : BitVec 17)
  /-- `bfpnn` (R432) -/
  | bfpnn (src : RegNum) (dis : BitVec 17)
  -- data type conversion (spec/47_conversion.md)
  /-- `cnvf2d` (R453) -/
  | cnvf2d (dst src : RegNum)
  /-- `cnvd2f` (R454) -/
  | cnvd2f (dst src : RegNum)
  /-- `cnvf2w` (R455) -/
  | cnvf2w (dst src : RegNum)
  /-- `cnvw2f` (R456) -/
  | cnvw2f (dst src : RegNum)
  /-- `cnvd2w` (R457) -/
  | cnvd2w (dst src : RegNum)
  /-- `cnvw2d` (R458) -/
  | cnvw2d (dst src : RegNum)
  /-- `cnvf2l` (R459) -/
  | cnvf2l (dst src : RegNum)
  /-- `cnvl2f` (R460) -/
  | cnvl2f (dst src : RegNum)
  /-- `cnvd2l` (R461) -/
  | cnvd2l (dst src : RegNum)
  /-- `cnvl2d` (R462) -/
  | cnvl2d (dst src : RegNum)
deriving DecidableEq, Repr

end Sys2Proof
end

