-- ==== Sys2Proof/WellFormed.lean ====
section
/-! DEFINITION. Which instructions the assembler admits (spec/30_encoding.md R118, R142): even register numbers for
long and double operands, special register numbers 0 to 8, and the sign copies of `j`. The machine itself checks the
first two when it runs an instruction (exceptions E4, E5, E2); nothing of the model depends on this file. -/

namespace Sys2Proof

/-- The register fields that name an even-odd pair (spec/60_exceptions.md R514, R515). -/
def Instr.pairFields (p : Config.Params) : Instr → List RegNum
  | .j _ | .jr _ => []
  | .trap | .rfe => []
  | .jal _ _ | .bc _ _ | .bv _ _ | .bz _ _ | .bn _ _ | .bnc _ _ | .bnv _ _ | .bnz _ _ | .bnn _ _ | .bfpan _ _
  | .bfpinf _ _ | .bfpz _ _ | .bfpn _ _ | .bfpnan _ _ | .bfpninf _ _ | .bfpnz _ _ | .bfpnn _ _ | .loadi _ _
  | .loadui _ _ | .lhi _ _ | .movW _ _ | .movF _ _ | .movf2w _ _ | .movw2f _ _ | .movw2s _ _ | .movs2w _ _
  | .cnvf2w _ _ | .cnvw2f _ _ | .invW _ _ | .jral _ _ | .cosW _ _ | .cosF _ _ | .coshW _ _ | .coshF _ _
  | .sinW _ _ | .sinF _ _ | .sinhW _ _ | .sinhF _ _ | .sqrt1msqW _ _ | .sqrt1msqF _ _ | .sqrt1psqW _ _
  | .sqrt1psqF _ _ | .atanW _ _ | .atanF _ _ | .atanhW _ _ | .atanhF _ _ | .lnW _ _ | .lnF _ _ | .sqrtW _ _
  | .sqrtF _ _ => []
  | .movL d a | .movD d a | .movd2l d a | .movl2d d a | .cnvd2l d a | .cnvl2d d a | .invL d a | .cosL d a
  | .cosD d a | .coshL d a | .coshD d a | .sinL d a | .sinD d a | .sinhL d a | .sinhD d a | .sqrt1msqL d a
  | .sqrt1msqD d a | .sqrt1psqL d a | .sqrt1psqD d a | .atanL d a | .atanD d a | .atanhL d a | .atanhD d a
  | .lnL d a | .lnD d a | .sqrtL d a | .sqrtD d a => [d, a]
  | .cnvf2d d _ | .cnvw2d d _ | .cnvf2l d _ => [d]
  | .cnvd2f _ a | .cnvd2w _ a | .cnvl2f _ a => [a]
  | .addiW _ _ _ | .adduiW _ _ _ | .subiW _ _ _ | .subuiW _ _ _ | .loadB _ _ _ | .loaduB _ _ _ | .loadH _ _ _
  | .loaduH _ _ _ | .loadW _ _ _ | .loadF _ _ _ | .storeB _ _ _ | .storeH _ _ _ | .storeW _ _ _ | .storeF _ _ _
  | .movn2fgG _ _ _ | .movfg2nG _ _ _ | .movn2fgF _ _ _ | .movfg2nF _ _ _ | .addW _ _ _ | .addF _ _ _
  | .subW _ _ _ | .subF _ _ _ | .multW _ _ _ | .multF _ _ _ | .divW _ _ _ | .divF _ _ _ | .remW _ _ _
  | .andW _ _ _ | .orW _ _ _ | .xorW _ _ _ | .rlW _ _ _ | .rrW _ _ _ | .slW _ _ _ | .sraW _ _ _ | .srlW _ _ _
  | .pol2recxW _ _ _ | .pol2recxF _ _ _ | .pol2recyW _ _ _ | .pol2recyF _ _ _ | .hyp2recxW _ _ _
  | .hyp2recxF _ _ _ | .hyp2recyW _ _ _ | .hyp2recyF _ _ _ | .normW _ _ _ | .normF _ _ _ | .atan2W _ _ _
  | .atan2F _ _ _ => []
  | .addL d a b | .addD d a b | .subL d a b | .subD d a b | .multD d a b | .divL d a b | .divD d a b
  | .remL d a b | .andL d a b | .orL d a b | .xorL d a b | .rlL d a b | .rrL d a b | .slL d a b | .sraL d a b
  | .srlL d a b | .pol2recxL d a b | .pol2recxD d a b | .pol2recyL d a b | .pol2recyD d a b | .hyp2recxL d a b
  | .hyp2recxD d a b | .hyp2recyL d a b | .hyp2recyD d a b | .normL d a b | .normD d a b | .atan2L d a b
  | .atan2D d a b => [d, a, b]
  | .multL d a b => match p.multLMode with | .pairByPair => [d, a, b] | .wordByWord => [d]

/-- Every pair is named by its even register (R142, "CPU Validations"). -/
def Instr.pairsEven (p : Config.Params) (i : Instr) : Bool :=
  (i.pairFields p).all fun r => !r.getLsbD 0

/-- The special register number is 0 to 8 (R142, "Assember Validations"). -/
def Instr.sprAssigned : Instr → Bool
  | .movw2s sdst _ => sdst.toNat ≤ 8
  | .movs2w _ ssrc => ssrc.toNat ≤ 8
  | _ => true

/-- Bits 27:26 of `j` are copies of bit 25, so that both widths of its displacement agree (R118, D2). -/
def Instr.jumpCanonical : Instr → Bool
  | .j dis => dis.extractLsb' 26 2 == BitVec.signExtend 2 (dis.extractLsb' 25 1)
  | _ => true

/-- An instruction the assembler emits. -/
def Instr.wellFormed (p : Config.Params) (i : Instr) : Bool :=
  i.pairsEven p && i.sprAssigned && i.jumpCanonical

end Sys2Proof
end

