-- ==== Sys2Proof/Decode.lean ====
section
/-! DEFINITION. The decoder of spec/30_encoding.md (R110 to R128), total on every word and rejecting by name, and
after it the encoder, written from the same tables. -/

namespace Sys2Proof

/-- What a word decodes to (R128). -/
inductive Decoded where
  /-- no entry of R120 to R124 matches: the machine raises E2 (R127) -/
  | unassigned
  /-- an instruction whose undefined bits are not all zero: `UNDEF_BITS_POLICY` says what happens (R119) -/
  | undefinedBits (i : Instr)
  /-- an instruction -/
  | ok (i : Instr)
deriving DecidableEq, Repr

/-- Bits 31:30, the type (R110). -/
def fieldType (w : Word) : BitVec 2 := w.extractLsb' 30 2
/-- Bits 29:28, the opcode of Type 0 (R111). -/
def fieldOp0 (w : Word) : BitVec 2 := w.extractLsb' 28 2
/-- Bits 29:26, the opcode of Types 1 and 2 (R112, R113). -/
def fieldOp (w : Word) : BitVec 4 := w.extractLsb' 26 4
/-- Bits 27:0, the displacement of `j` (R111). -/
def fieldDis28 (w : Word) : BitVec 28 := w.extractLsb' 0 28
/-- Bits 25:21, the (first) source or base register (R112 to R114). -/
def fieldSrc (w : Word) : RegNum := w.extractLsb' 21 5
/-- Bits 20:16, the destination register, or the data register of a store (R112 to R114, spec/41_memory_transfer.md R244). -/
def fieldDst (w : Word) : RegNum := w.extractLsb' 16 5
/-- Bits 15:11, the second source register of Type 3 (R114). -/
def fieldSrc2 (w : Word) : RegNum := w.extractLsb' 11 5
/-- Bits 20:17, the condition of a branch (R121). -/
def fieldCond (w : Word) : BitVec 4 := w.extractLsb' 17 4
/-- Bits 16:0, the displacement of a branch (R112). -/
def fieldDis17 (w : Word) : BitVec 17 := w.extractLsb' 0 17
/-- Bits 15:0, an immediate or a displacement (R117). -/
def fieldImm16 (w : Word) : BitVec 16 := w.extractLsb' 0 16
/-- Bits 10:9, V (R115). -/
def fieldV (w : Word) : BitVec 2 := w.extractLsb' 9 2
/-- Bits 8:4, the sub-opcode (R113, R114). -/
def fieldSub (w : Word) : BitVec 5 := w.extractLsb' 4 5
/-- Bits 15:14, SO (R113). -/
def fieldSo (w : Word) : BitVec 2 := w.extractLsb' 14 2
/-- Bits 13:11, the nibble number (R113). -/
def fieldNib (w : Word) : BitVec 3 := w.extractLsb' 11 3

/-- Type 0 (R120). -/
def decodeType0 (w : Word) : Option Instr :=
  match fieldOp0 w with
  | 0b00#2 => some (.j (fieldDis28 w))
  | 0b01#2 => some .trap
  | 0b10#2 => some .rfe
  | _ => none

/-- The sixteen branches (R121). -/
def decodeBranch (w : Word) : Option Instr :=
  match fieldCond w with
  | 0b0000#4 => some (.bc (fieldSrc w) (fieldDis17 w))
  | 0b0001#4 => some (.bv (fieldSrc w) (fieldDis17 w))
  | 0b0010#4 => some (.bz (fieldSrc w) (fieldDis17 w))
  | 0b0011#4 => some (.bn (fieldSrc w) (fieldDis17 w))
  | 0b0100#4 => some (.bnc (fieldSrc w) (fieldDis17 w))
  | 0b0101#4 => some (.bnv (fieldSrc w) (fieldDis17 w))
  | 0b0110#4 => some (.bnz (fieldSrc w) (fieldDis17 w))
  | 0b0111#4 => some (.bnn (fieldSrc w) (fieldDis17 w))
  | 0b1000#4 => some (.bfpan (fieldSrc w) (fieldDis17 w))
  | 0b1001#4 => some (.bfpinf (fieldSrc w) (fieldDis17 w))
  | 0b1010#4 => some (.bfpz (fieldSrc w) (fieldDis17 w))
  | 0b1011#4 => some (.bfpn (fieldSrc w) (fieldDis17 w))
  | 0b1100#4 => some (.bfpnan (fieldSrc w) (fieldDis17 w))
  | 0b1101#4 => some (.bfpninf (fieldSrc w) (fieldDis17 w))
  | 0b1110#4 => some (.bfpnz (fieldSrc w) (fieldDis17 w))
  | 0b1111#4 => some (.bfpnn (fieldSrc w) (fieldDis17 w))
  | _ => none

/-- Type 1 (R121). -/
def decodeType1 (p : Config.Params) (w : Word) : Option Instr :=
  let op := fieldOp w
  if op = 0b0000#4 then some (.jr (fieldSrc w))
  else if op = 0b0001#4 then some (.jal (fieldDst w) (fieldImm16 w))
  else if op = 0b0010#4 then decodeBranch w
  else if op = p.opLoadi then some (.loadi (fieldDst w) (fieldImm16 w))
  else if op = p.opLoadui then some (.loadui (fieldDst w) (fieldImm16 w))
  else if op = p.opLhi then some (.lhi (fieldDst w) (fieldImm16 w))
  else none

/-- Type 2 group A (R123). -/
def decodeGroupA (w : Word) : Option Instr :=
  match fieldSub w, fieldV w with
  | 0b00000#5, 0b00#2 => some (.movW (fieldDst w) (fieldSrc w))
  | 0b00000#5, 0b01#2 => some (.movL (fieldDst w) (fieldSrc w))
  | 0b00000#5, 0b10#2 => some (.movF (fieldDst w) (fieldSrc w))
  | 0b00000#5, 0b11#2 => some (.movD (fieldDst w) (fieldSrc w))
  | 0b00001#5, 0b00#2 => some (.movf2w (fieldDst w) (fieldSrc w))
  | 0b00001#5, 0b01#2 => some (.movw2f (fieldDst w) (fieldSrc w))
  | 0b00001#5, 0b10#2 => some (.movd2l (fieldDst w) (fieldSrc w))
  | 0b00001#5, 0b11#2 => some (.movl2d (fieldDst w) (fieldSrc w))
  | 0b00010#5, 0b00#2 => some (.movw2s (fieldDst w) (fieldSrc w))
  | 0b00010#5, 0b01#2 => some (.movs2w (fieldDst w) (fieldSrc w))
  | 0b00011#5, 0b00#2 => some (.cnvf2d (fieldDst w) (fieldSrc w))
  | 0b00011#5, 0b01#2 => some (.cnvd2f (fieldDst w) (fieldSrc w))
  | 0b00011#5, 0b10#2 => some (.cnvf2w (fieldDst w) (fieldSrc w))
  | 0b00011#5, 0b11#2 => some (.cnvw2f (fieldDst w) (fieldSrc w))
  | 0b00100#5, 0b00#2 => some (.cnvd2w (fieldDst w) (fieldSrc w))
  | 0b00100#5, 0b01#2 => some (.cnvw2d (fieldDst w) (fieldSrc w))
  | 0b00100#5, 0b10#2 => some (.cnvf2l (fieldDst w) (fieldSrc w))
  | 0b00100#5, 0b11#2 => some (.cnvl2f (fieldDst w) (fieldSrc w))
  | 0b00101#5, 0b00#2 => some (.cnvd2l (fieldDst w) (fieldSrc w))
  | 0b00101#5, 0b01#2 => some (.cnvl2d (fieldDst w) (fieldSrc w))
  | 0b00110#5, 0b00#2 => some (.invW (fieldDst w) (fieldSrc w))
  | 0b00110#5, 0b01#2 => some (.invL (fieldDst w) (fieldSrc w))
  | 0b00111#5, 0b00#2 => some (.jral (fieldDst w) (fieldSrc w))
  | 0b10000#5, 0b00#2 => some (.cosW (fieldDst w) (fieldSrc w))
  | 0b10000#5, 0b01#2 => some (.cosL (fieldDst w) (fieldSrc w))
  | 0b10000#5, 0b10#2 => some (.cosF (fieldDst w) (fieldSrc w))
  | 0b10000#5, 0b11#2 => some (.cosD (fieldDst w) (fieldSrc w))
  | 0b10001#5, 0b00#2 => some (.coshW (fieldDst w) (fieldSrc w))
  | 0b10001#5, 0b01#2 => some (.coshL (fieldDst w) (fieldSrc w))
  | 0b10001#5, 0b10#2 => some (.coshF (fieldDst w) (fieldSrc w))
  | 0b10001#5, 0b11#2 => some (.coshD (fieldDst w) (fieldSrc w))
  | 0b10010#5, 0b00#2 => some (.sinW (fieldDst w) (fieldSrc w))
  | 0b10010#5, 0b01#2 => some (.sinL (fieldDst w) (fieldSrc w))
  | 0b10010#5, 0b10#2 => some (.sinF (fieldDst w) (fieldSrc w))
  | 0b10010#5, 0b11#2 => some (.sinD (fieldDst w) (fieldSrc w))
  | 0b10011#5, 0b00#2 => some (.sinhW (fieldDst w) (fieldSrc w))
  | 0b10011#5, 0b01#2 => some (.sinhL (fieldDst w) (fieldSrc w))
  | 0b10011#5, 0b10#2 => some (.sinhF (fieldDst w) (fieldSrc w))
  | 0b10011#5, 0b11#2 => some (.sinhD (fieldDst w) (fieldSrc w))
  | 0b10100#5, 0b00#2 => some (.sqrt1msqW (fieldDst w) (fieldSrc w))
  | 0b10100#5, 0b01#2 => some (.sqrt1msqL (fieldDst w) (fieldSrc w))
  | 0b10100#5, 0b10#2 => some (.sqrt1msqF (fieldDst w) (fieldSrc w))
  | 0b10100#5, 0b11#2 => some (.sqrt1msqD (fieldDst w) (fieldSrc w))
  | 0b10101#5, 0b00#2 => some (.sqrt1psqW (fieldDst w) (fieldSrc w))
  | 0b10101#5, 0b01#2 => some (.sqrt1psqL (fieldDst w) (fieldSrc w))
  | 0b10101#5, 0b10#2 => some (.sqrt1psqF (fieldDst w) (fieldSrc w))
  | 0b10101#5, 0b11#2 => some (.sqrt1psqD (fieldDst w) (fieldSrc w))
  | 0b10110#5, 0b00#2 => some (.atanW (fieldDst w) (fieldSrc w))
  | 0b10110#5, 0b01#2 => some (.atanL (fieldDst w) (fieldSrc w))
  | 0b10110#5, 0b10#2 => some (.atanF (fieldDst w) (fieldSrc w))
  | 0b10110#5, 0b11#2 => some (.atanD (fieldDst w) (fieldSrc w))
  | 0b10111#5, 0b00#2 => some (.atanhW (fieldDst w) (fieldSrc w))
  | 0b10111#5, 0b01#2 => some (.atanhL (fieldDst w) (fieldSrc w))
  | 0b10111#5, 0b10#2 => some (.atanhF (fieldDst w) (fieldSrc w))
  | 0b10111#5, 0b11#2 => some (.atanhD (fieldDst w) (fieldSrc w))
  | 0b11000#5, 0b00#2 => some (.lnW (fieldDst w) (fieldSrc w))
  | 0b11000#5, 0b01#2 => some (.lnL (fieldDst w) (fieldSrc w))
  | 0b11000#5, 0b10#2 => some (.lnF (fieldDst w) (fieldSrc w))
  | 0b11000#5, 0b11#2 => some (.lnD (fieldDst w) (fieldSrc w))
  | 0b11001#5, 0b00#2 => some (.sqrtW (fieldDst w) (fieldSrc w))
  | 0b11001#5, 0b01#2 => some (.sqrtL (fieldDst w) (fieldSrc w))
  | 0b11001#5, 0b10#2 => some (.sqrtF (fieldDst w) (fieldSrc w))
  | 0b11001#5, 0b11#2 => some (.sqrtD (fieldDst w) (fieldSrc w))
  | _, _ => none

/-- Type 2 group E (R122). -/
def decodeGroupE (w : Word) : Option Instr :=
  match fieldSo w with
  | 0b00#2 => some (.movn2fgG (fieldDst w) (fieldSrc w) (fieldNib w))
  | 0b01#2 => some (.movfg2nG (fieldDst w) (fieldSrc w) (fieldNib w))
  | 0b10#2 => some (.movn2fgF (fieldDst w) (fieldSrc w) (fieldNib w))
  | 0b11#2 => some (.movfg2nF (fieldDst w) (fieldSrc w) (fieldNib w))
  | _ => none

/-- Type 2 (R122). -/
def decodeType2 (w : Word) : Option Instr :=
  match fieldOp w with
  | 0b0000#4 => decodeGroupA w
  | 0b0001#4 => some (.addiW (fieldDst w) (fieldSrc w) (fieldImm16 w))
  | 0b0010#4 => some (.adduiW (fieldDst w) (fieldSrc w) (fieldImm16 w))
  | 0b0011#4 => some (.subiW (fieldDst w) (fieldSrc w) (fieldImm16 w))
  | 0b0100#4 => some (.subuiW (fieldDst w) (fieldSrc w) (fieldImm16 w))
  | 0b0101#4 => some (.loadB (fieldDst w) (fieldSrc w) (fieldImm16 w))
  | 0b0110#4 => some (.loaduB (fieldDst w) (fieldSrc w) (fieldImm16 w))
  | 0b0111#4 => some (.loadH (fieldDst w) (fieldSrc w) (fieldImm16 w))
  | 0b1000#4 => some (.loaduH (fieldDst w) (fieldSrc w) (fieldImm16 w))
  | 0b1001#4 => some (.loadW (fieldDst w) (fieldSrc w) (fieldImm16 w))
  | 0b1010#4 => some (.loadF (fieldDst w) (fieldSrc w) (fieldImm16 w))
  | 0b1011#4 => some (.storeB (fieldDst w) (fieldSrc w) (fieldImm16 w))
  | 0b1100#4 => some (.storeH (fieldDst w) (fieldSrc w) (fieldImm16 w))
  | 0b1101#4 => some (.storeW (fieldDst w) (fieldSrc w) (fieldImm16 w))
  | 0b1110#4 => some (.storeF (fieldDst w) (fieldSrc w) (fieldImm16 w))
  | 0b1111#4 => decodeGroupE w
  | _ => none

/-- Type 3 (R124). -/
def decodeType3 (w : Word) : Option Instr :=
  match fieldSub w, fieldV w with
  | 0b00000#5, 0b00#2 => some (.addW (fieldDst w) (fieldSrc w) (fieldSrc2 w))
  | 0b00000#5, 0b01#2 => some (.addL (fieldDst w) (fieldSrc w) (fieldSrc2 w))
  | 0b00000#5, 0b10#2 => some (.addF (fieldDst w) (fieldSrc w) (fieldSrc2 w))
  | 0b00000#5, 0b11#2 => some (.addD (fieldDst w) (fieldSrc w) (fieldSrc2 w))
  | 0b00001#5, 0b00#2 => some (.subW (fieldDst w) (fieldSrc w) (fieldSrc2 w))
  | 0b00001#5, 0b01#2 => some (.subL (fieldDst w) (fieldSrc w) (fieldSrc2 w))
  | 0b00001#5, 0b10#2 => some (.subF (fieldDst w) (fieldSrc w) (fieldSrc2 w))
  | 0b00001#5, 0b11#2 => some (.subD (fieldDst w) (fieldSrc w) (fieldSrc2 w))
  | 0b00010#5, 0b00#2 => some (.multW (fieldDst w) (fieldSrc w) (fieldSrc2 w))
  | 0b00010#5, 0b01#2 => some (.multL (fieldDst w) (fieldSrc w) (fieldSrc2 w))
  | 0b00010#5, 0b10#2 => some (.multF (fieldDst w) (fieldSrc w) (fieldSrc2 w))
  | 0b00010#5, 0b11#2 => some (.multD (fieldDst w) (fieldSrc w) (fieldSrc2 w))
  | 0b00011#5, 0b00#2 => some (.divW (fieldDst w) (fieldSrc w) (fieldSrc2 w))
  | 0b00011#5, 0b01#2 => some (.divL (fieldDst w) (fieldSrc w) (fieldSrc2 w))
  | 0b00011#5, 0b10#2 => some (.divF (fieldDst w) (fieldSrc w) (fieldSrc2 w))
  | 0b00011#5, 0b11#2 => some (.divD (fieldDst w) (fieldSrc w) (fieldSrc2 w))
  | 0b00100#5, 0b00#2 => some (.remW (fieldDst w) (fieldSrc w) (fieldSrc2 w))
  | 0b00100#5, 0b01#2 => some (.remL (fieldDst w) (fieldSrc w) (fieldSrc2 w))
  | 0b00101#5, 0b00#2 => some (.andW (fieldDst w) (fieldSrc w) (fieldSrc2 w))
  | 0b00101#5, 0b01#2 => some (.andL (fieldDst w) (fieldSrc w) (fieldSrc2 w))
  | 0b00110#5, 0b00#2 => some (.orW (fieldDst w) (fieldSrc w) (fieldSrc2 w))
  | 0b00110#5, 0b01#2 => some (.orL (fieldDst w) (fieldSrc w) (fieldSrc2 w))
  | 0b00111#5, 0b00#2 => some (.xorW (fieldDst w) (fieldSrc w) (fieldSrc2 w))
  | 0b00111#5, 0b01#2 => some (.xorL (fieldDst w) (fieldSrc w) (fieldSrc2 w))
  | 0b01000#5, 0b00#2 => some (.rlW (fieldDst w) (fieldSrc w) (fieldSrc2 w))
  | 0b01000#5, 0b01#2 => some (.rlL (fieldDst w) (fieldSrc w) (fieldSrc2 w))
  | 0b01001#5, 0b00#2 => some (.rrW (fieldDst w) (fieldSrc w) (fieldSrc2 w))
  | 0b01001#5, 0b01#2 => some (.rrL (fieldDst w) (fieldSrc w) (fieldSrc2 w))
  | 0b01010#5, 0b00#2 => some (.slW (fieldDst w) (fieldSrc w) (fieldSrc2 w))
  | 0b01010#5, 0b01#2 => some (.slL (fieldDst w) (fieldSrc w) (fieldSrc2 w))
  | 0b01011#5, 0b00#2 => some (.sraW (fieldDst w) (fieldSrc w) (fieldSrc2 w))
  | 0b01011#5, 0b01#2 => some (.sraL (fieldDst w) (fieldSrc w) (fieldSrc2 w))
  | 0b01100#5, 0b00#2 => some (.srlW (fieldDst w) (fieldSrc w) (fieldSrc2 w))
  | 0b01100#5, 0b01#2 => some (.srlL (fieldDst w) (fieldSrc w) (fieldSrc2 w))
  | 0b10000#5, 0b00#2 => some (.pol2recxW (fieldDst w) (fieldSrc w) (fieldSrc2 w))
  | 0b10000#5, 0b01#2 => some (.pol2recxL (fieldDst w) (fieldSrc w) (fieldSrc2 w))
  | 0b10000#5, 0b10#2 => some (.pol2recxF (fieldDst w) (fieldSrc w) (fieldSrc2 w))
  | 0b10000#5, 0b11#2 => some (.pol2recxD (fieldDst w) (fieldSrc w) (fieldSrc2 w))
  | 0b10001#5, 0b00#2 => some (.pol2recyW (fieldDst w) (fieldSrc w) (fieldSrc2 w))
  | 0b10001#5, 0b01#2 => some (.pol2recyL (fieldDst w) (fieldSrc w) (fieldSrc2 w))
  | 0b10001#5, 0b10#2 => some (.pol2recyF (fieldDst w) (fieldSrc w) (fieldSrc2 w))
  | 0b10001#5, 0b11#2 => some (.pol2recyD (fieldDst w) (fieldSrc w) (fieldSrc2 w))
  | 0b10010#5, 0b00#2 => some (.hyp2recxW (fieldDst w) (fieldSrc w) (fieldSrc2 w))
  | 0b10010#5, 0b01#2 => some (.hyp2recxL (fieldDst w) (fieldSrc w) (fieldSrc2 w))
  | 0b10010#5, 0b10#2 => some (.hyp2recxF (fieldDst w) (fieldSrc w) (fieldSrc2 w))
  | 0b10010#5, 0b11#2 => some (.hyp2recxD (fieldDst w) (fieldSrc w) (fieldSrc2 w))
  | 0b10011#5, 0b00#2 => some (.hyp2recyW (fieldDst w) (fieldSrc w) (fieldSrc2 w))
  | 0b10011#5, 0b01#2 => some (.hyp2recyL (fieldDst w) (fieldSrc w) (fieldSrc2 w))
  | 0b10011#5, 0b10#2 => some (.hyp2recyF (fieldDst w) (fieldSrc w) (fieldSrc2 w))
  | 0b10011#5, 0b11#2 => some (.hyp2recyD (fieldDst w) (fieldSrc w) (fieldSrc2 w))
  | 0b10100#5, 0b00#2 => some (.normW (fieldDst w) (fieldSrc w) (fieldSrc2 w))
  | 0b10100#5, 0b01#2 => some (.normL (fieldDst w) (fieldSrc w) (fieldSrc2 w))
  | 0b10100#5, 0b10#2 => some (.normF (fieldDst w) (fieldSrc w) (fieldSrc2 w))
  | 0b10100#5, 0b11#2 => some (.normD (fieldDst w) (fieldSrc w) (fieldSrc2 w))
  | 0b10101#5, 0b00#2 => some (.atan2W (fieldDst w) (fieldSrc w) (fieldSrc2 w))
  | 0b10101#5, 0b01#2 => some (.atan2L (fieldDst w) (fieldSrc w) (fieldSrc2 w))
  | 0b10101#5, 0b10#2 => some (.atan2F (fieldDst w) (fieldSrc w) (fieldSrc2 w))
  | 0b10101#5, 0b11#2 => some (.atan2D (fieldDst w) (fieldSrc w) (fieldSrc2 w))
  | _, _ => none

/-- Steps (1) to (3) of R128: the instruction selected by the defined bits. -/
def select (p : Config.Params) (w : Word) : Option Instr :=
  match fieldType w with
  | 0b00#2 => decodeType0 w
  | 0b01#2 => decodeType1 p w
  | 0b10#2 => decodeType2 w
  | 0b11#2 => decodeType3 w
  | _ => none

/-- The undefined bits of a word that selects an instruction (R119). -/
def undefinedMask (w : Word) : Word :=
  match fieldType w with
  | 0b00#2 => if fieldOp0 w = 0b00#2 then 0#32 else 0x0FFFFFFF#32
  | 0b01#2 =>
    if fieldOp w = 0b0000#4 then 0x001FFFFF#32
    else if fieldOp w = 0b0010#4 then 0#32
    else 0x03E00000#32
  | 0b10#2 =>
    if fieldOp w = 0b0000#4 then 0x0000F80F#32
    else if fieldOp w = 0b1111#4 then 0x000007FF#32
    else 0#32
  | _ => 0x3C00000F#32

/-- The decode procedure of R128. -/
def decode (p : Config.Params) (w : Word) : Decoded :=
  match select p w with
  | none => .unassigned
  | some i => if w &&& undefinedMask w = 0#32 then .ok i else .undefinedBits i

/-- A word from its four bytes, the byte at the lowest address first: big-endian (spec/20_memory.md R83, R90). -/
def wordOfBytes (b0 b1 b2 b3 : Byte) : Word := b0 ++ b1 ++ b2 ++ b3

/-- The four bytes of a word, the byte at the lowest address first (R83, R85). -/
def bytesOfWord (w : Word) : List Byte :=
  [w.extractLsb' 24 8, w.extractLsb' 16 8, w.extractLsb' 8 8, w.extractLsb' 0 8]

/-- The instruction at the head of a stream of bytes, and the bytes after it; `none` if no whole word is left
(R110: every instruction is one word). -/
def decodeBytes (p : Config.Params) : List Byte → Option (Decoded × List Byte)
  | b0 :: b1 :: b2 :: b3 :: rest => some (decode p (wordOfBytes b0 b1 b2 b3), rest)
  | _ => none

/-- The instruction the decoder reads from a word numbered as spec/opcode_table.json numbers it: its bytes laid out
big-endian and decoded with the default parameters. The table gives every row 32 bits. -/
def decodeTableWord (nbits w : Nat) : Option Instr :=
  match decodeBytes Config.Params.standard (bytesOfWord (BitVec.ofNat 32 (w % 2 ^ nbits))) with
  | some (.ok i, _) => some i
  | _ => none

/-- Type 0 (R111). -/
def encodeType0 (op : BitVec 2) (dis : BitVec 28) : Word := 0b00#2 ++ op ++ dis
/-- `jr` (R112 group A), its unused bits 0 (R119). -/
def encodeJumpReg (src : RegNum) : Word := 0b01#2 ++ 0b0000#4 ++ src ++ 0#21
/-- Type 1 groups B and D (R112), the undefined bits 0 (R119). -/
def encodeType1Dst (op : BitVec 4) (dst : RegNum) (imm : BitVec 16) : Word := 0b01#2 ++ op ++ 0#5 ++ dst ++ imm
/-- Type 1 group C (R112). -/
def encodeBranch (cond : BitVec 4) (src : RegNum) (dis : BitVec 17) : Word :=
  0b01#2 ++ 0b0010#4 ++ src ++ cond ++ dis
/-- Type 2 groups B, C and D (R113). -/
def encodeType2 (op : BitVec 4) (src dst : RegNum) (imm : BitVec 16) : Word := 0b10#2 ++ op ++ src ++ dst ++ imm
/-- Type 2 group A (R113), the undefined bits 0 (R119). -/
def encodeGroupA (sub : BitVec 5) (v : BitVec 2) (src dst : RegNum) : Word :=
  0b10#2 ++ 0b0000#4 ++ src ++ dst ++ 0#5 ++ v ++ sub ++ 0#4
/-- Type 2 group E (R113), the undefined bits 0 (R119). -/
def encodeGroupE (so : BitVec 2) (src dst : RegNum) (nib : BitVec 3) : Word :=
  0b10#2 ++ 0b1111#4 ++ src ++ dst ++ so ++ nib ++ 0#11
/-- Type 3 (R114), the undefined bits 0 (R119). -/
def encodeType3 (sub : BitVec 5) (v : BitVec 2) (s1 dst s2 : RegNum) : Word :=
  0b11#2 ++ 0#4 ++ s1 ++ dst ++ s2 ++ v ++ sub ++ 0#4

/-- The canonical word of an instruction (R111 to R124). -/
def encode (p : Config.Params) : Instr → Word
  | .j dis => encodeType0 0b00#2 dis
  | .trap => encodeType0 0b01#2 0#28
  | .rfe => encodeType0 0b10#2 0#28
  | .jr src => encodeJumpReg src
  | .jal dst dis => encodeType1Dst 0b0001#4 dst dis
  | .bc src dis => encodeBranch 0b0000#4 src dis
  | .bv src dis => encodeBranch 0b0001#4 src dis
  | .bz src dis => encodeBranch 0b0010#4 src dis
  | .bn src dis => encodeBranch 0b0011#4 src dis
  | .bnc src dis => encodeBranch 0b0100#4 src dis
  | .bnv src dis => encodeBranch 0b0101#4 src dis
  | .bnz src dis => encodeBranch 0b0110#4 src dis
  | .bnn src dis => encodeBranch 0b0111#4 src dis
  | .bfpan src dis => encodeBranch 0b1000#4 src dis
  | .bfpinf src dis => encodeBranch 0b1001#4 src dis
  | .bfpz src dis => encodeBranch 0b1010#4 src dis
  | .bfpn src dis => encodeBranch 0b1011#4 src dis
  | .bfpnan src dis => encodeBranch 0b1100#4 src dis
  | .bfpninf src dis => encodeBranch 0b1101#4 src dis
  | .bfpnz src dis => encodeBranch 0b1110#4 src dis
  | .bfpnn src dis => encodeBranch 0b1111#4 src dis
  | .loadi dst imm => encodeType1Dst p.opLoadi dst imm
  | .loadui dst imm => encodeType1Dst p.opLoadui dst imm
  | .lhi dst imm => encodeType1Dst p.opLhi dst imm
  | .movW dst src => encodeGroupA 0b00000#5 0b00#2 src dst
  | .movL dst src => encodeGroupA 0b00000#5 0b01#2 src dst
  | .movF dst src => encodeGroupA 0b00000#5 0b10#2 src dst
  | .movD dst src => encodeGroupA 0b00000#5 0b11#2 src dst
  | .movf2w dst src => encodeGroupA 0b00001#5 0b00#2 src dst
  | .movw2f dst src => encodeGroupA 0b00001#5 0b01#2 src dst
  | .movd2l dst src => encodeGroupA 0b00001#5 0b10#2 src dst
  | .movl2d dst src => encodeGroupA 0b00001#5 0b11#2 src dst
  | .movw2s dst src => encodeGroupA 0b00010#5 0b00#2 src dst
  | .movs2w dst src => encodeGroupA 0b00010#5 0b01#2 src dst
  | .cnvf2d dst src => encodeGroupA 0b00011#5 0b00#2 src dst
  | .cnvd2f dst src => encodeGroupA 0b00011#5 0b01#2 src dst
  | .cnvf2w dst src => encodeGroupA 0b00011#5 0b10#2 src dst
  | .cnvw2f dst src => encodeGroupA 0b00011#5 0b11#2 src dst
  | .cnvd2w dst src => encodeGroupA 0b00100#5 0b00#2 src dst
  | .cnvw2d dst src => encodeGroupA 0b00100#5 0b01#2 src dst
  | .cnvf2l dst src => encodeGroupA 0b00100#5 0b10#2 src dst
  | .cnvl2f dst src => encodeGroupA 0b00100#5 0b11#2 src dst
  | .cnvd2l dst src => encodeGroupA 0b00101#5 0b00#2 src dst
  | .cnvl2d dst src => encodeGroupA 0b00101#5 0b01#2 src dst
  | .invW dst src => encodeGroupA 0b00110#5 0b00#2 src dst
  | .invL dst src => encodeGroupA 0b00110#5 0b01#2 src dst
  | .jral dst src => encodeGroupA 0b00111#5 0b00#2 src dst
  | .cosW dst src => encodeGroupA 0b10000#5 0b00#2 src dst
  | .cosL dst src => encodeGroupA 0b10000#5 0b01#2 src dst
  | .cosF dst src => encodeGroupA 0b10000#5 0b10#2 src dst
  | .cosD dst src => encodeGroupA 0b10000#5 0b11#2 src dst
  | .coshW dst src => encodeGroupA 0b10001#5 0b00#2 src dst
  | .coshL dst src => encodeGroupA 0b10001#5 0b01#2 src dst
  | .coshF dst src => encodeGroupA 0b10001#5 0b10#2 src dst
  | .coshD dst src => encodeGroupA 0b10001#5 0b11#2 src dst
  | .sinW dst src => encodeGroupA 0b10010#5 0b00#2 src dst
  | .sinL dst src => encodeGroupA 0b10010#5 0b01#2 src dst
  | .sinF dst src => encodeGroupA 0b10010#5 0b10#2 src dst
  | .sinD dst src => encodeGroupA 0b10010#5 0b11#2 src dst
  | .sinhW dst src => encodeGroupA 0b10011#5 0b00#2 src dst
  | .sinhL dst src => encodeGroupA 0b10011#5 0b01#2 src dst
  | .sinhF dst src => encodeGroupA 0b10011#5 0b10#2 src dst
  | .sinhD dst src => encodeGroupA 0b10011#5 0b11#2 src dst
  | .sqrt1msqW dst src => encodeGroupA 0b10100#5 0b00#2 src dst
  | .sqrt1msqL dst src => encodeGroupA 0b10100#5 0b01#2 src dst
  | .sqrt1msqF dst src => encodeGroupA 0b10100#5 0b10#2 src dst
  | .sqrt1msqD dst src => encodeGroupA 0b10100#5 0b11#2 src dst
  | .sqrt1psqW dst src => encodeGroupA 0b10101#5 0b00#2 src dst
  | .sqrt1psqL dst src => encodeGroupA 0b10101#5 0b01#2 src dst
  | .sqrt1psqF dst src => encodeGroupA 0b10101#5 0b10#2 src dst
  | .sqrt1psqD dst src => encodeGroupA 0b10101#5 0b11#2 src dst
  | .atanW dst src => encodeGroupA 0b10110#5 0b00#2 src dst
  | .atanL dst src => encodeGroupA 0b10110#5 0b01#2 src dst
  | .atanF dst src => encodeGroupA 0b10110#5 0b10#2 src dst
  | .atanD dst src => encodeGroupA 0b10110#5 0b11#2 src dst
  | .atanhW dst src => encodeGroupA 0b10111#5 0b00#2 src dst
  | .atanhL dst src => encodeGroupA 0b10111#5 0b01#2 src dst
  | .atanhF dst src => encodeGroupA 0b10111#5 0b10#2 src dst
  | .atanhD dst src => encodeGroupA 0b10111#5 0b11#2 src dst
  | .lnW dst src => encodeGroupA 0b11000#5 0b00#2 src dst
  | .lnL dst src => encodeGroupA 0b11000#5 0b01#2 src dst
  | .lnF dst src => encodeGroupA 0b11000#5 0b10#2 src dst
  | .lnD dst src => encodeGroupA 0b11000#5 0b11#2 src dst
  | .sqrtW dst src => encodeGroupA 0b11001#5 0b00#2 src dst
  | .sqrtL dst src => encodeGroupA 0b11001#5 0b01#2 src dst
  | .sqrtF dst src => encodeGroupA 0b11001#5 0b10#2 src dst
  | .sqrtD dst src => encodeGroupA 0b11001#5 0b11#2 src dst
  | .addiW dst src imm => encodeType2 0b0001#4 src dst imm
  | .adduiW dst src imm => encodeType2 0b0010#4 src dst imm
  | .subiW dst src imm => encodeType2 0b0011#4 src dst imm
  | .subuiW dst src imm => encodeType2 0b0100#4 src dst imm
  | .loadB dst base dis => encodeType2 0b0101#4 base dst dis
  | .loaduB dst base dis => encodeType2 0b0110#4 base dst dis
  | .loadH dst base dis => encodeType2 0b0111#4 base dst dis
  | .loaduH dst base dis => encodeType2 0b1000#4 base dst dis
  | .loadW dst base dis => encodeType2 0b1001#4 base dst dis
  | .loadF dst base dis => encodeType2 0b1010#4 base dst dis
  | .storeB data base dis => encodeType2 0b1011#4 base data dis
  | .storeH data base dis => encodeType2 0b1100#4 base data dis
  | .storeW data base dis => encodeType2 0b1101#4 base data dis
  | .storeF data base dis => encodeType2 0b1110#4 base data dis
  | .movn2fgG dst src nib => encodeGroupE 0b00#2 src dst nib
  | .movfg2nG dst src nib => encodeGroupE 0b01#2 src dst nib
  | .movn2fgF dst src nib => encodeGroupE 0b10#2 src dst nib
  | .movfg2nF dst src nib => encodeGroupE 0b11#2 src dst nib
  | .addW dst s1 s2 => encodeType3 0b00000#5 0b00#2 s1 dst s2
  | .addL dst s1 s2 => encodeType3 0b00000#5 0b01#2 s1 dst s2
  | .addF dst s1 s2 => encodeType3 0b00000#5 0b10#2 s1 dst s2
  | .addD dst s1 s2 => encodeType3 0b00000#5 0b11#2 s1 dst s2
  | .subW dst s1 s2 => encodeType3 0b00001#5 0b00#2 s1 dst s2
  | .subL dst s1 s2 => encodeType3 0b00001#5 0b01#2 s1 dst s2
  | .subF dst s1 s2 => encodeType3 0b00001#5 0b10#2 s1 dst s2
  | .subD dst s1 s2 => encodeType3 0b00001#5 0b11#2 s1 dst s2
  | .multW dst s1 s2 => encodeType3 0b00010#5 0b00#2 s1 dst s2
  | .multL dst s1 s2 => encodeType3 0b00010#5 0b01#2 s1 dst s2
  | .multF dst s1 s2 => encodeType3 0b00010#5 0b10#2 s1 dst s2
  | .multD dst s1 s2 => encodeType3 0b00010#5 0b11#2 s1 dst s2
  | .divW dst s1 s2 => encodeType3 0b00011#5 0b00#2 s1 dst s2
  | .divL dst s1 s2 => encodeType3 0b00011#5 0b01#2 s1 dst s2
  | .divF dst s1 s2 => encodeType3 0b00011#5 0b10#2 s1 dst s2
  | .divD dst s1 s2 => encodeType3 0b00011#5 0b11#2 s1 dst s2
  | .remW dst s1 s2 => encodeType3 0b00100#5 0b00#2 s1 dst s2
  | .remL dst s1 s2 => encodeType3 0b00100#5 0b01#2 s1 dst s2
  | .andW dst s1 s2 => encodeType3 0b00101#5 0b00#2 s1 dst s2
  | .andL dst s1 s2 => encodeType3 0b00101#5 0b01#2 s1 dst s2
  | .orW dst s1 s2 => encodeType3 0b00110#5 0b00#2 s1 dst s2
  | .orL dst s1 s2 => encodeType3 0b00110#5 0b01#2 s1 dst s2
  | .xorW dst s1 s2 => encodeType3 0b00111#5 0b00#2 s1 dst s2
  | .xorL dst s1 s2 => encodeType3 0b00111#5 0b01#2 s1 dst s2
  | .rlW dst s1 s2 => encodeType3 0b01000#5 0b00#2 s1 dst s2
  | .rlL dst s1 s2 => encodeType3 0b01000#5 0b01#2 s1 dst s2
  | .rrW dst s1 s2 => encodeType3 0b01001#5 0b00#2 s1 dst s2
  | .rrL dst s1 s2 => encodeType3 0b01001#5 0b01#2 s1 dst s2
  | .slW dst s1 s2 => encodeType3 0b01010#5 0b00#2 s1 dst s2
  | .slL dst s1 s2 => encodeType3 0b01010#5 0b01#2 s1 dst s2
  | .sraW dst s1 s2 => encodeType3 0b01011#5 0b00#2 s1 dst s2
  | .sraL dst s1 s2 => encodeType3 0b01011#5 0b01#2 s1 dst s2
  | .srlW dst s1 s2 => encodeType3 0b01100#5 0b00#2 s1 dst s2
  | .srlL dst s1 s2 => encodeType3 0b01100#5 0b01#2 s1 dst s2
  | .pol2recxW dst s1 s2 => encodeType3 0b10000#5 0b00#2 s1 dst s2
  | .pol2recxL dst s1 s2 => encodeType3 0b10000#5 0b01#2 s1 dst s2
  | .pol2recxF dst s1 s2 => encodeType3 0b10000#5 0b10#2 s1 dst s2
  | .pol2recxD dst s1 s2 => encodeType3 0b10000#5 0b11#2 s1 dst s2
  | .pol2recyW dst s1 s2 => encodeType3 0b10001#5 0b00#2 s1 dst s2
  | .pol2recyL dst s1 s2 => encodeType3 0b10001#5 0b01#2 s1 dst s2
  | .pol2recyF dst s1 s2 => encodeType3 0b10001#5 0b10#2 s1 dst s2
  | .pol2recyD dst s1 s2 => encodeType3 0b10001#5 0b11#2 s1 dst s2
  | .hyp2recxW dst s1 s2 => encodeType3 0b10010#5 0b00#2 s1 dst s2
  | .hyp2recxL dst s1 s2 => encodeType3 0b10010#5 0b01#2 s1 dst s2
  | .hyp2recxF dst s1 s2 => encodeType3 0b10010#5 0b10#2 s1 dst s2
  | .hyp2recxD dst s1 s2 => encodeType3 0b10010#5 0b11#2 s1 dst s2
  | .hyp2recyW dst s1 s2 => encodeType3 0b10011#5 0b00#2 s1 dst s2
  | .hyp2recyL dst s1 s2 => encodeType3 0b10011#5 0b01#2 s1 dst s2
  | .hyp2recyF dst s1 s2 => encodeType3 0b10011#5 0b10#2 s1 dst s2
  | .hyp2recyD dst s1 s2 => encodeType3 0b10011#5 0b11#2 s1 dst s2
  | .normW dst s1 s2 => encodeType3 0b10100#5 0b00#2 s1 dst s2
  | .normL dst s1 s2 => encodeType3 0b10100#5 0b01#2 s1 dst s2
  | .normF dst s1 s2 => encodeType3 0b10100#5 0b10#2 s1 dst s2
  | .normD dst s1 s2 => encodeType3 0b10100#5 0b11#2 s1 dst s2
  | .atan2W dst s1 s2 => encodeType3 0b10101#5 0b00#2 s1 dst s2
  | .atan2L dst s1 s2 => encodeType3 0b10101#5 0b01#2 s1 dst s2
  | .atan2F dst s1 s2 => encodeType3 0b10101#5 0b10#2 s1 dst s2
  | .atan2D dst s1 s2 => encodeType3 0b10101#5 0b11#2 s1 dst s2

/-- The bytes of an instruction as the instruction memory holds them (spec/20_memory.md R90). -/
def encodeBytes (p : Config.Params) (i : Instr) : List Byte := bytesOfWord (encode p i)

end Sys2Proof
end

