-- ==== Sys2Proof/Machine/State.lean ====
section
/-! DEFINITION. The state of the machine (spec/10_state.md; INVENTORY.md lists every field with its rule), the
reasons it stops, and the state after reset (R70). -/

namespace Sys2Proof.Machine

/-- A general purpose register with its three stored flags; the negative flag is bit 31 of `val` (R20, R22, R23). -/
structure Gpr where
  val : Word
  c : Bool
  v : Bool
  z : Bool
deriving DecidableEq, Repr

/-- A floating point register with its three stored flags; the negative flag is bit 31 of `val` (R26, R27). -/
structure Fpr where
  val : Word
  a : Bool
  i : Bool
  z : Bool
deriving DecidableEq, Repr

/-- Memory as a list of addresses and bytes, in the one form `Memory.wf` of Machine/Ops.lean: addresses strictly
rising and below 2^32. An address that is not listed holds what was there at power-up. -/
structure Memory where
  cells : List Host.Cell
deriving DecidableEq, Repr

/-- What the environment does (R66). -/
inductive EnvEvent where
  /-- `arst` is asserted (spec/70_reset_and_hazards.md R570) -/
  | reset
  /-- one clock, `TimerTick` (spec/60_exceptions.md R541) -/
  | tick
  /-- `IrqRaise`, optionally with new PRA and PRD in the same clock (R547) -/
  | irqRaise (post : Option (Word × Word))
  /-- `PeripheralPost(pra, prd)` (R551) -/
  | peripheralPost (pra prd : Word)
deriving DecidableEq, Repr

/-- The state of the machine. -/
structure State where
  /-- the implementation parameters (spec/00_scope.md R5; the model's own field, log 1) -/
  params : Config.Params
  /-- what the environment will do before each of the next steps, and nothing but the clock when the list is at its
  end (R66; the model's own field, log 2) -/
  inputs : List (List EnvEvent)
  /-- R0 to R31 (R20 to R23) -/
  gprs : Vector Gpr 32
  /-- F0 to F31 (R26, R27) -/
  fprs : Vector Fpr 32
  /-- the word index of the instruction (R35) -/
  pc : WordIdx
  /-- CFG; bit 3 is never stored as 1 (R41) -/
  cfg : BitVec 6
  /-- STP (R46) -/
  stp : BitVec 22
  /-- MR; bit 32 is the global mask (R47) -/
  mr : BitVec 33
  /-- IR (R48) -/
  ir : Word
  /-- TMR (R49) -/
  tmr : Word
  /-- PWD (R50) -/
  pwd : Word
  /-- PWA (R51) -/
  pwa : Word
  /-- PRD (R52) -/
  prd : Word
  /-- PRA (R53) -/
  pra : Word
  /-- CR (R54) -/
  cr : Word
  /-- L0 to L31 (R55) -/
  links : Vector Link 32
  /-- ESP (R57) -/
  esp : BitVec 5
  /-- the `iack` output latch (R67, spec/60_exceptions.md R546) -/
  iack : Bool
  /-- data memory (spec/20_memory.md R81) -/
  dm : Memory
  /-- instruction memory, by byte address (R82, R90) -/
  im : Memory
  /-- how many times an unspecified value was drawn (R8 `UNSPEC`; the model's own field, log 7) -/
  drawn : Nat
  /-- the word index of the instruction executed last, which `ASYNC_RETURN` = last-pc-plus-1 reads (R5, D10, U12; the
  model's own field, log 20) -/
  lastPc : WordIdx
  /-- the `PeripheralWrite(address, data)` events so far, oldest first (R66, spec/60_exceptions.md R550; log 26) -/
  periphOut : List (Word × Word)
deriving DecidableEq, Repr

/-- Why the machine stops with a fault. -/
inductive Fault where
  /-- A load or store reaches an address outside `DM_POPULATED`, which the spec places outside the admitted
  behaviour (spec/20_memory.md R93, D27). Raised by `withAccess`. Safe (log 5). -/
  | unpopulatedData
  /-- The instruction memory holds no whole word at the PC: `IM_CONTENT` is the platform's (R90, R93,
  spec/46_control.md R441). Raised by `step`. Safe (log 6). -/
  | unpopulatedCode
deriving DecidableEq, Repr

/-- Why the machine refuses an instruction. -/
inductive Refusal where
  /-- The instruction has no meaning yet; no arm of `exec` answers it. Safe. -/
  | notModelled (mnemonic : String)
  /-- A word with a non-zero undefined bit under `UNDEF_BITS_POLICY` = refuse (spec/30_encoding.md R119, D6, U1).
  Raised by `step`. Safe (log 15). -/
  | undefinedBits
deriving DecidableEq, Repr

/-- What a meaning answers. -/
abbrev Result := Host.Outcome State Fault Refusal

/-- L0 after reset: bit 35, "no handler" (R55, R70). -/
def resetLink0 : Link := 0x800000000#36

/-- The state after reset: every register as R70 says, no byte of memory written, the standard parameters and no
input of the environment. Before the first instruction, `lastPc` is the index before word 0 (log 1, 2, 4, 6, 7, 20,
26). -/
def State.reset : State where
  params := Config.Params.standard
  inputs := []
  gprs := Vector.replicate 32 ⟨0#32, false, false, false⟩
  fprs := Vector.replicate 32 ⟨0#32, false, false, false⟩
  pc := 0#30
  cfg := 0#6
  stp := 0#22
  mr := 0#33
  ir := 0#32
  tmr := 0#32
  pwd := 0#32
  pwa := 0#32
  prd := 0#32
  pra := 0#32
  cr := 0#32
  links := (Vector.replicate 32 0#36).set 0 resetLink0
  esp := 0#5
  iack := false
  dm := ⟨[]⟩
  im := ⟨[]⟩
  drawn := 0
  lastPc := 0x3FFFFFFF#30
  periphOut := []

end Sys2Proof.Machine
end

