-- ==== Sys2Proof/Machine/Flags.lean ====
section
/-! DEFINITION. What the integer unit computes: a result with its carry, overflow and zero outputs
(spec/10_state.md R30, spec/42_arithmetic.md R261), and the flags of a floating point result (R31). -/

namespace Sys2Proof.Machine

/-- A result of `n` bits and the outputs c, v, z; the negative flag is the most significant bit (R30). -/
structure AluOut (n : Nat) where
  res : BitVec n
  c : Bool
  v : Bool
  z : Bool
deriving DecidableEq, Repr

/-- A floating point result and the outputs a, i, z; the negative flag is the most significant bit (R31). -/
structure FpOut (n : Nat) where
  res : BitVec n
  a : Bool
  i : Bool
  z : Bool
deriving DecidableEq, Repr

/-- A result whose carry and overflow are the two bits c # v of `cv`; z = 1 exactly when it is zero (R261, D14). -/
def aluOut {n : Nat} (res : BitVec n) (cv : BitVec 2) : AluOut n :=
  ⟨res, cv.getLsbD 1, cv.getLsbD 0, res == 0#n⟩

/-- add: carry out of the top bit, signed overflow (R261). -/
def aluAdd {n : Nat} (x y : BitVec n) : AluOut n :=
  let res := x + y
  ⟨res, decide (2 ^ n ≤ x.toNat + y.toNat), x.msb == y.msb && res.msb != x.msb, res == 0#n⟩

/-- sub: the carry's polarity is `SUB_CARRY_IS_BORROW`; signed overflow (R261, D13, log 9). -/
def aluSub {n : Nat} (x y : BitVec n) : AluOut n :=
  let res := x - y
  let borrow := decide (x.toNat < y.toNat)
  ⟨res, if Config.subCarryIsBorrow then borrow else !borrow, x.msb != y.msb && res.msb != x.msb, res == 0#n⟩

/-- Every other operation: carry and overflow are `ALU_CV` (R261, D13, log 8). -/
def aluOther {n : Nat} (op : Config.AluOp) (x y res : BitVec n) : AluOut n :=
  aluOut res (Config.aluCV op n x y)

/-- The low half of the product (spec/42_arithmetic.md R276, R277). -/
def aluMult {n : Nat} (x y : BitVec n) : AluOut n := aluOther .mult x y (x * y)

/-- The quotient: signed and truncated toward zero, or unsigned (R280, D15). -/
def quotient {n : Nat} (signed : Bool) (x y : BitVec n) : BitVec n :=
  if signed then BitVec.ofInt n (Int.tdiv x.toInt y.toInt) else BitVec.ofNat n (x.toNat / y.toNat)

/-- div (R280, R281). -/
def aluDiv {n : Nat} (signed : Bool) (x y : BitVec n) : AluOut n := aluOther .div x y (quotient signed x y)

/-- rem: what the quotient leaves, so that it has the dividend's sign when signed (R284, R285). -/
def aluRem {n : Nat} (signed : Bool) (x y : BitVec n) : AluOut n :=
  aluOther .rem x y (x - quotient signed x y * y)

/-- The shift amount: the low 5 bits of the operand for a word, the low 6 for a long (R294). -/
def shiftAmount {n : Nat} (y : BitVec n) : Nat := y.toNat % n

/-- rl (R286, R287). -/
def aluRl {n : Nat} (x y : BitVec n) : AluOut n := aluOther .rl x y (x.rotateLeft (shiftAmount y))
/-- rr (R288, R289). -/
def aluRr {n : Nat} (x y : BitVec n) : AluOut n := aluOther .rr x y (x.rotateRight (shiftAmount y))
/-- sl (R290, R291). -/
def aluSl {n : Nat} (x y : BitVec n) : AluOut n := aluOther .sl x y (x <<< shiftAmount y)
/-- sra (R292, R293). -/
def aluSra {n : Nat} (x y : BitVec n) : AluOut n := aluOther .sra x y (x.sshiftRight (shiftAmount y))
/-- srl (spec/45_logic.md R399, R400). -/
def aluSrl {n : Nat} (x y : BitVec n) : AluOut n := aluOther .srl x y (x >>> shiftAmount y)
/-- inv (R391, R392). -/
def aluInv {n : Nat} (x : BitVec n) : AluOut n := aluOther .inv x 0#n (~~~x)
/-- and (R393, R394). -/
def aluAnd {n : Nat} (x y : BitVec n) : AluOut n := aluOther .and x y (x &&& y)
/-- or (R395, R396). -/
def aluOr {n : Nat} (x y : BitVec n) : AluOut n := aluOther .or x y (x ||| y)
/-- xor (R397, R398). -/
def aluXor {n : Nat} (x y : BitVec n) : AluOut n := aluOther .xor x y (x ^^^ y)

/-- The operands of mult.l in its word-by-word reading, extended to 64 bits (spec/90_conflicts.md C22, log 19). -/
def extendWord (x : Word) : Long := if Config.multLWordSigned then x.signExtend 64 else x.setWidth 64

/-- The flags of a binary32 result (R31). -/
def fpOut32 (x : Word) : FpOut 32 :=
  let e := x.extractLsb' 23 8
  let f := x.extractLsb' 0 23
  ⟨x, !(e == 0xFF#8 && f != 0#23), e == 0xFF#8 && f == 0#23, e == 0#8 && f == 0#23⟩

/-- The flags of a binary64 result (R31). -/
def fpOut64 (x : Long) : FpOut 64 :=
  let e := x.extractLsb' 52 11
  let f := x.extractLsb' 0 52
  ⟨x, !(e == 0x7FF#11 && f != 0#52), e == 0x7FF#11 && f == 0#52, e == 0#11 && f == 0#52⟩

end Sys2Proof.Machine
end

