-- ==== Sys2Proof/Machine/Ieee.lean ====
section
/-! DEFINITION. IEEE 754 addition, subtraction, multiplication and division on binary32 and binary64 in the four
rounding modes, with the cause outputs of the FPU (spec/42_arithmetic.md R263, spec/10_state.md R38,
spec/60_exceptions.md R517). A finite value is ± m · 2^e, operated on exactly and rounded once. What the spec takes from
"IEEE 754 compliant" and does not spell out is PRESUMED from the standard (log 29). -/

namespace Sys2Proof.Machine

/-- A binary interchange format. -/
structure FpFmt where
  expBits : Nat
  fracBits : Nat
deriving DecidableEq, Repr

/-- binary32, `.f`. -/
def FpFmt.single : FpFmt := ⟨8, 23⟩
/-- binary64, `.d`. -/
def FpFmt.double : FpFmt := ⟨11, 52⟩

/-- The exponent field of infinities and NaNs. -/
def FpFmt.expMax (f : FpFmt) : Nat := 2 ^ f.expBits - 1
/-- The exponent of the smallest normal number. -/
def FpFmt.expMin (f : FpFmt) : Int := 2 - (2 : Int) ^ (f.expBits - 1)
/-- The exponent of the smallest subnormal number. -/
def FpFmt.ulpMin (f : FpFmt) : Int := f.expMin - f.fracBits
/-- The bits of infinity without its sign. -/
def FpFmt.infMag (f : FpFmt) : Nat := f.expMax * 2 ^ f.fracBits

/-- An operand. -/
inductive FpVal where
  | nan (signalling : Bool)
  | inf (neg : Bool)
  /-- ± m · 2^e -/
  | fin (neg : Bool) (m : Nat) (e : Int)
deriving DecidableEq, Repr

/-- A result: any quiet NaN (U10), or a sign and the bits below it. -/
inductive FpRes where
  | nan
  | num (neg : Bool) (mag : Nat)
deriving DecidableEq, Repr

/-- The FPU's cause outputs (R38). -/
structure Causes where
  invalid : Bool := false
  divZero : Bool := false
  overflow : Bool := false
  underflow : Bool := false
deriving DecidableEq, Repr

/-- A result with its causes. -/
structure FpuOut where
  res : FpRes
  causes : Causes := {}
deriving DecidableEq, Repr

/-- Reading the bits of an operand; a NaN whose top fraction bit is 0 is signalling (log 13). -/
def unpack (f : FpFmt) (x : Nat) : FpVal :=
  let neg := x / 2 ^ (f.expBits + f.fracBits) % 2 == 1
  let e := x / 2 ^ f.fracBits % 2 ^ f.expBits
  let frac := x % 2 ^ f.fracBits
  if e = f.expMax then
    if frac = 0 then .inf neg else .nan (decide (frac < 2 ^ (f.fracBits - 1)))
  else if e = 0 then .fin neg frac f.ulpMin
  else .fin neg (2 ^ f.fracBits + frac) (f.ulpMin + e - 1)

/-- m · 2^(-sh) rounded to an integer, and whether that was inexact (R38: RN is ties to even). -/
def roundInt (rnd : Config.Rnd) (neg : Bool) (m : Nat) (sh : Int) : Nat × Bool :=
  let d := 2 ^ sh.toNat
  let k := m * 2 ^ (-sh).toNat / d
  let r := m * 2 ^ (-sh).toNat % d
  let up := match rnd with
    | .rn => decide (d < 2 * r) || (2 * r == d && k % 2 == 1)
    | .rz => false
    | .rp => r != 0 && !neg
    | .rm => r != 0 && neg
  (if up then k + 1 else k, r != 0)

/-- The exponent of the leading bit of m · 2^e, m not 0. -/
def leadExp (m : Nat) (e : Int) : Int := e + Nat.log2 m

/-- The magnitude bits of m · 2^e rounded to the format with no upper limit on the exponent, and whether that was
inexact. -/
def roundMag (f : FpFmt) (rnd : Config.Rnd) (neg : Bool) (m : Nat) (e : Int) : Nat × Bool :=
  let q := max (leadExp m e - f.fracBits) f.ulpMin
  let (k, inexact) := roundInt rnd neg m (q - e)
  ((q - f.ulpMin).toNat * 2 ^ f.fracBits + k, inexact)

/-- Whether the result is tiny after rounding with an unlimited exponent. -/
def tinyAfter (f : FpFmt) (rnd : Config.Rnd) (neg : Bool) (m : Nat) (e : Int) : Bool :=
  let le := leadExp m e
  decide (le < f.expMin - 1)
    || (decide (le = f.expMin - 1)
        && decide ((roundInt rnd neg m (le - f.fracBits - e)).1 < 2 ^ (f.fracBits + 1)))

/-- Whether the result counts as tiny: after rounding, or before it if the implementation detects it there (log 14). -/
def tiny (f : FpFmt) (rnd : Config.Rnd) (neg : Bool) (m : Nat) (e : Int) : Bool :=
  tinyAfter f rnd neg m e || (decide (leadExp m e < f.expMin) && Config.tinyBeforeRounding)

/-- The magnitude of an overflowed result: infinity, or the largest finite number when the mode rounds toward zero. -/
def overflowMag (f : FpFmt) (rnd : Config.Rnd) (neg : Bool) : Nat :=
  match rnd, neg with
  | .rn, _ | .rp, false | .rm, true => f.infMag
  | .rz, _ | .rp, true | .rm, false => f.infMag - 1

/-- ± m · 2^e rounded, m not 0, with overflow and underflow (R263). -/
def roundFinite (f : FpFmt) (rnd : Config.Rnd) (neg : Bool) (m : Nat) (e : Int) : FpuOut :=
  let (mag, inexact) := roundMag f rnd neg m e
  if f.infMag ≤ mag then ⟨.num neg (overflowMag f rnd neg), { overflow := true }⟩
  else ⟨.num neg mag, { underflow := inexact && tiny f rnd neg m e }⟩

/-- A result that is a signed infinity. -/
def fpInf (f : FpFmt) (neg : Bool) : FpuOut := ⟨.num neg f.infMag, {}⟩
/-- A result that is a signed zero. -/
def fpZero (neg : Bool) : FpuOut := ⟨.num neg 0, {}⟩
/-- An invalid operation gives a quiet NaN and the cause V (R263, R517). -/
def fpInvalid : FpuOut := ⟨.nan, { invalid := true }⟩
/-- A NaN operand gives a quiet NaN; a signalling one is invalid too (R270). -/
def fpNan (signalling : Bool) : FpuOut := ⟨.nan, { invalid := signalling }⟩

/-- The integer ± m · 2^k. -/
def signedInt (neg : Bool) (m k : Nat) : Int := if neg then -((m * 2 ^ k : Nat) : Int) else ((m * 2 ^ k : Nat) : Int)

/-- The sum of two finite values; an exact zero sum of opposite signs is +0, or -0 in RM (R274). -/
def addFinite (f : FpFmt) (rnd : Config.Rnd) (n1 : Bool) (m1 : Nat) (e1 : Int) (n2 : Bool) (m2 : Nat) (e2 : Int) : FpuOut :=
  let e := min e1 e2
  let v := signedInt n1 m1 (e1 - e).toNat + signedInt n2 m2 (e2 - e).toNat
  if v = 0 then fpZero (if n1 = n2 then n1 else rnd == .rm)
  else roundFinite f rnd (decide (v < 0)) v.natAbs e

/-- fadd (R270, R271). -/
def fpAdd (f : FpFmt) (rnd : Config.Rnd) : FpVal → FpVal → FpuOut
  | .nan a, .nan b => fpNan (a || b)
  | .nan a, .inf _ | .nan a, .fin _ _ _ | .inf _, .nan a | .fin _ _ _, .nan a => fpNan a
  | .inf a, .inf b => if a = b then fpInf f a else fpInvalid
  | .inf a, .fin _ _ _ | .fin _ _ _, .inf a => fpInf f a
  | .fin n1 m1 e1, .fin n2 m2 e2 => addFinite f rnd n1 m1 e1 n2 m2 e2

/-- A value with the other sign. -/
def FpVal.negate : FpVal → FpVal
  | .nan a => .nan a
  | .inf a => .inf !a
  | .fin n m e => .fin (!n) m e

/-- fsub (R274, R275). -/
def fpSub (f : FpFmt) (rnd : Config.Rnd) (a b : FpVal) : FpuOut := fpAdd f rnd a b.negate

/-- fmul (R278, R279). -/
def fpMul (f : FpFmt) (rnd : Config.Rnd) : FpVal → FpVal → FpuOut
  | .nan a, .nan b => fpNan (a || b)
  | .nan a, .inf _ | .nan a, .fin _ _ _ | .inf _, .nan a | .fin _ _ _, .nan a => fpNan a
  | .inf a, .inf b => fpInf f (a != b)
  | .inf a, .fin b m _ | .fin a m _, .inf b => if m = 0 then fpInvalid else fpInf f (a != b)
  | .fin n1 m1 e1, .fin n2 m2 e2 =>
    if m1 = 0 ∨ m2 = 0 then fpZero (n1 != n2) else roundFinite f rnd (n1 != n2) (m1 * m2) (e1 + e2)

/-- The quotient of two finite values that are not 0: enough quotient bits for one rounding, and a last bit that says
whether anything is left over. -/
def divFinite (f : FpFmt) (rnd : Config.Rnd) (neg : Bool) (m1 : Nat) (e1 : Int) (m2 : Nat) (e2 : Int) : FpuOut :=
  let sh := f.fracBits + 3 + Nat.log2 m2
  let q := m1 * 2 ^ sh / m2
  let sticky := if m1 * 2 ^ sh % m2 = 0 then 0 else 1
  roundFinite f rnd neg (2 * q + sticky) (e1 - e2 - sh - 1)

/-- fdiv (R282, R283). -/
def fpDiv (f : FpFmt) (rnd : Config.Rnd) : FpVal → FpVal → FpuOut
  | .nan a, .nan b => fpNan (a || b)
  | .nan a, .inf _ | .nan a, .fin _ _ _ | .inf _, .nan a | .fin _ _ _, .nan a => fpNan a
  | .inf _, .inf _ => fpInvalid
  | .inf a, .fin b _ _ => fpInf f (a != b)
  | .fin a _ _, .inf b => fpZero (a != b)
  | .fin n1 m1 e1, .fin n2 m2 e2 =>
    if m2 = 0 then
      if m1 = 0 then fpInvalid else ⟨.num (n1 != n2) f.infMag, { divZero := true }⟩
    else if m1 = 0 then fpZero (n1 != n2)
    else divFinite f rnd (n1 != n2) m1 e1 m2 e2

/-- The bits of a sign and a magnitude. -/
def signMag (f : FpFmt) (neg : Bool) (mag : Nat) : Nat := (if neg then 2 ^ (f.expBits + f.fracBits) else 0) + mag

/-- The `k`-th drawn quiet binary32 NaN (U10, D42, log 12). -/
def quietNan32 (k : Nat) : Word :=
  let b := Config.nanBits32 k
  b.extractLsb' 22 1 ++ 0xFF#8 ++ 1#1 ++ b.extractLsb' 0 22

/-- The `k`-th drawn quiet binary64 NaN (U10, D42, log 12). -/
def quietNan64 (k : Nat) : Long :=
  let b := Config.nanBits64 k
  b.extractLsb' 51 1 ++ 0x7FF#11 ++ 1#1 ++ b.extractLsb' 0 51

/-- The bits of a binary32 result. -/
def FpRes.bits32 (r : FpRes) (k : Nat) : Word :=
  match r with
  | .nan => quietNan32 k
  | .num neg mag => BitVec.ofNat 32 (signMag .single neg mag)

/-- The bits of a binary64 result. -/
def FpRes.bits64 (r : FpRes) (k : Nat) : Long :=
  match r with
  | .nan => quietNan64 k
  | .num neg mag => BitVec.ofNat 64 (signMag .double neg mag)

/-- An FPU operation on unpacked operands. -/
abbrev FpuOp := FpFmt → Config.Rnd → FpVal → FpVal → FpuOut

/-- A binary32 operation on bits. -/
def FpuOp.single (op : FpuOp) (rnd : Config.Rnd) (x y : Word) : FpuOut :=
  op .single rnd (unpack .single x.toNat) (unpack .single y.toNat)

/-- A binary64 operation on bits. -/
def FpuOp.double (op : FpuOp) (rnd : Config.Rnd) (x y : Long) : FpuOut :=
  op .double rnd (unpack .double x.toNat) (unpack .double y.toNat)

/-- The bits of ± m · 2^e if the format has that value exactly (spec/47_conversion.md R450, constraint E). -/
def exactFloat (f : FpFmt) (neg : Bool) (m : Nat) (e : Int) : Option Nat :=
  if m = 0 then some (signMag f neg 0)
  else
    let (mag, inexact) := roundMag f .rz neg m e
    if inexact || decide (f.infMag ≤ mag) then none else some (signMag f neg mag)

/-- The integer ± m · 2^e if it is one and `n` signed bits hold it (R450, constraint E). -/
def exactInt (n : Nat) (neg : Bool) (m : Nat) (e : Int) : Option (BitVec n) :=
  if m * 2 ^ e.toNat % 2 ^ (-e).toNat = 0 then
    let a : Int := (m * 2 ^ e.toNat / 2 ^ (-e).toNat : Nat)
    let v := if neg then -a else a
    if -(2 : Int) ^ (n - 1) ≤ v ∧ v < (2 : Int) ^ (n - 1) then some (BitVec.ofInt n v) else none
  else none

end Sys2Proof.Machine
end

