-- ==== Sys2Proof/Machine/Ops.lean ====
section
/-! DEFINITION. The named operations over the machine's state: registers, special registers, data memory, taking an
exception and returning from one, the timer and the environment (spec/10_state.md, spec/20_memory.md,
spec/60_exceptions.md, spec/70_reset_and_hazards.md). -/

namespace Sys2Proof.Machine

/-! ### Memory as a list of bytes -/

/-- The byte listed for an address. -/
def readCells (a : Nat) : List Host.Cell → Option Byte
  | [] => none
  | (a', b) :: rest => if a = a' then some b else readCells a rest

/-- The list with a byte written, addresses kept rising. -/
def writeCells (a : Nat) (b : Byte) : List Host.Cell → List Host.Cell
  | [] => [(a, b)]
  | (a', b') :: rest =>
    if a < a' then (a, b) :: (a', b') :: rest
    else if a = a' then (a, b) :: rest
    else (a', b') :: writeCells a b rest

/-- Addresses rise strictly from `lo` and stay below 2^32. -/
def risingFrom : Nat → List Host.Cell → Bool
  | _, [] => true
  | lo, (a, _) :: rest => decide (lo ≤ a) && decide (a < 2 ^ 32) && risingFrom (a + 1) rest

/-- The byte a memory lists for an address. An unlisted address reads as `none`, so no listed byte equals it. -/
def Memory.read (m : Memory) (a : Nat) : Option Byte := readCells a m.cells
/-- Writing one byte. -/
def Memory.write (m : Memory) (a : Nat) (b : Byte) : Memory := ⟨writeCells a b m.cells⟩
/-- The canonical form. -/
def Memory.wf (m : Memory) : Bool := risingFrom 0 m.cells

/-! ### General purpose and floating point registers -/

/-- R[r] with its flags (R20, R22). -/
def State.gpr (s : State) (r : RegNum) : Gpr := s.gprs[r.toNat]'r.isLt
/-- F[r] with its flags (R26, R27). -/
def State.fpr (s : State) (r : RegNum) : Fpr := s.fprs[r.toNat]'r.isLt
/-- R[r] (R20). -/
def State.reg (s : State) (r : RegNum) : Word := (s.gpr r).val
/-- F[r] (R26). -/
def State.freg (s : State) (r : RegNum) : Word := (s.fpr r).val
/-- RP(r) = R[r+1] # R[r] (R21). -/
def State.pair (s : State) (r : RegNum) : Long := s.reg (r + 1#5) ++ s.reg r
/-- FP(r) = F[r+1] # F[r] (R26). -/
def State.fpair (s : State) (r : RegNum) : Long := s.freg (r + 1#5) ++ s.freg r

/-- Data and flags of a GPR. -/
def State.setGpr (s : State) (r : RegNum) (g : Gpr) : State := { s with gprs := s.gprs.set r.toNat g r.isLt }
/-- Data and flags of an FPR. -/
def State.setFpr (s : State) (r : RegNum) (g : Fpr) : State := { s with fprs := s.fprs.set r.toNat g r.isLt }
/-- Data of a GPR, its stored flags unchanged (R24, R33 (d)). -/
def State.setReg (s : State) (r : RegNum) (v : Word) : State := s.setGpr r { s.gpr r with val := v }
/-- Data of an FPR, its stored flags unchanged (R28). -/
def State.setFreg (s : State) (r : RegNum) (v : Word) : State := s.setFpr r { s.fpr r with val := v }

/-- The counter moves on after a value was drawn (R8 `UNSPEC`, log 7). -/
def State.draw (s : State) : State := { s with drawn := s.drawn + 1 }

/-- Write-back of a word result with its flags (R33 (a)). -/
def State.writeW (s : State) (dst : RegNum) (o : AluOut 32) : State := s.setGpr dst ⟨o.res, o.c, o.v, o.z⟩

/-- Write-back of a 64-bit result: the odd register takes its flags, the even register's are `UNSPEC(3)` (R25). -/
def State.writeL (s : State) (dst : RegNum) (o : AluOut 64) : State :=
  let u := Config.unspecFlags s.drawn
  ((s.setGpr dst ⟨o.res.extractLsb' 0 32, u.getLsbD 2, u.getLsbD 1, u.getLsbD 0⟩).setGpr (dst + 1#5)
    ⟨o.res.extractLsb' 32 32, o.c, o.v, o.z⟩).draw

/-- Write-back of a binary32 result with its flags (R31). -/
def State.writeF (s : State) (dst : RegNum) (o : FpOut 32) : State := s.setFpr dst ⟨o.res, o.a, o.i, o.z⟩

/-- Write-back of a binary64 result: the odd register takes its flags, the even register's are `UNSPEC(3)` (R28). -/
def State.writeD (s : State) (dst : RegNum) (o : FpOut 64) : State :=
  let u := Config.unspecFlags s.drawn
  ((s.setFpr dst ⟨o.res.extractLsb' 0 32, u.getLsbD 2, u.getLsbD 1, u.getLsbD 0⟩).setFpr (dst + 1#5)
    ⟨o.res.extractLsb' 32 32, o.a, o.i, o.z⟩).draw

/-! ### Fields of the special registers -/

/-- CFG[0]: user mode (R41, spec/60_exceptions.md R530). -/
def State.userMode (s : State) : Bool := s.cfg.getLsbD 0
/-- CFG[1]: nested exceptions; hardwired to 0 without the link register stack (R41, R42). -/
def State.nesting (s : State) : Bool := s.params.hasLrs && s.cfg.getLsbD 1
/-- CFG[2]: the timer stops at zero (R41). -/
def State.autoStop (s : State) : Bool := s.cfg.getLsbD 2

/-- CFG[5:4]: the rounding mode (R38). -/
def State.rnd (s : State) : Config.Rnd :=
  match s.cfg.extractLsb' 4 2 with
  | 0b00#2 => .rn
  | 0b01#2 => .rz
  | 0b10#2 => .rp
  | _ => .rm

/-- ESP, read as 0 without the link register stack (R57). -/
def State.level (s : State) : BitVec 5 := if s.params.hasLrs then s.esp else 0#5
/-- L[j] (R55). -/
def State.link (s : State) (j : BitVec 5) : Link := s.links[j.toNat]'j.isLt
/-- Writing L[j]. -/
def State.setLink (s : State) (j : BitVec 5) (l : Link) : State := { s with links := s.links.set j.toNat l j.isLt }

/-- The reload value of the timer, STP # 0b1111111111 (R46, spec/60_exceptions.md R540). -/
def State.reload (s : State) : Word := s.stp ++ 0b1111111111#10

/-! ### Special register access (R60, R61) -/

/-- `CFG[5:4] # 0b0 # CFG[2] # CFG[1] # CFG[0]` (R60). -/
def State.readCfg (s : State) : Word :=
  (s.cfg.extractLsb' 4 2 ++ 0#1 ++ s.cfg.extractLsb' 2 1 ++ BitVec.ofBool s.nesting ++ s.cfg.extractLsb' 0 1).setWidth 32

/-- S[k] as movs2w reads it; `none` for the numbers that are not assigned (R60, D8). -/
def State.readSpr (s : State) (k : RegNum) : Option Word :=
  match k.toNat with
  | 0 => some s.readCfg
  | 1 => some (s.stp.setWidth 32)
  | 2 => some (s.mr.extractLsb' 0 32)
  | 3 => some s.ir
  | 4 => some s.tmr
  | 5 => some s.pwd
  | 6 => some s.pwa
  | 7 => some s.prd
  | 8 => some s.pra
  | _ => none

/-- The start strobe, with the CFG[2] just written (spec/60_exceptions.md R542, D45). -/
def State.startStrobe (s : State) : State :=
  if s.autoStop && s.tmr == 0#32 then { s with tmr := s.reload } else s

/-- `CFG <- v`: CFG[1] stays 0 without the link register stack, bit 3 is not stored but fires the strobe (R61, R42). -/
def State.writeCfg (s : State) (v : Word) : State :=
  let cfg := v.extractLsb' 4 2 ++ 0#1 ++ v.extractLsb' 2 1
    ++ (if s.params.hasLrs then v.extractLsb' 1 1 else 0#1) ++ v.extractLsb' 0 1
  let t := { s with cfg := cfg }
  if v.getLsbD 3 then t.startStrobe else t

/-- `PWD <- v` with the event `PeripheralWrite(PWA, v)` (R61, spec/60_exceptions.md R550). -/
def State.writePwd (s : State) (v : Word) : State := { s with pwd := v, periphOut := s.periphOut ++ [(s.pwa, v)] }

/-- `S[k] <- v` as movw2s writes it; `none` for the numbers that are not assigned (R61, D8). -/
def State.writeSpr (s : State) (k : RegNum) (v : Word) : Option State :=
  match k.toNat with
  | 0 => some (s.writeCfg v)
  | 1 => some { s with stp := v.extractLsb' 0 22 }
  | 2 => some { s with mr := s.mr.extractLsb' 32 1 ++ v }
  | 3 => some s
  | 4 => some s
  | 5 => some (s.writePwd v)
  | 6 => some { s with pwa := v }
  | 7 => some s
  | 8 => some s
  | _ => none

/-! ### Data memory (spec/20_memory.md) -/

/-- M[a]: the byte written last, or what was there at power-up (R84, R70, log 4). -/
def State.byteAt (s : State) (a : Word) : Byte := (s.dm.read a.toNat).getD (Config.powerUpByte a.toNat)

/-- `MemRead(a, 1)` (R84). -/
def State.memRead1 (s : State) (a : Word) : Byte := s.byteAt a
/-- `MemRead(a, 2)`: big-endian (R84). -/
def State.memRead2 (s : State) (a : Word) : BitVec 16 := s.byteAt a ++ s.byteAt (a + 1#32)
/-- `MemRead(a, 4)`: big-endian (R84). -/
def State.memRead4 (s : State) (a : Word) : Word :=
  s.byteAt a ++ s.byteAt (a + 1#32) ++ s.byteAt (a + 2#32) ++ s.byteAt (a + 3#32)

/-- M[a] <- b. -/
def State.setByte (s : State) (a : Word) (b : Byte) : State := { s with dm := s.dm.write a.toNat b }

/-- `MemWrite(a, 1, v)` (R85). -/
def State.memWrite1 (s : State) (a : Word) (v : Byte) : State := s.setByte a v
/-- `MemWrite(a, 2, v)`: the most significant byte at the lowest address (R85). -/
def State.memWrite2 (s : State) (a : Word) (v : BitVec 16) : State :=
  (s.setByte a (v.extractLsb' 8 8)).setByte (a + 1#32) (v.extractLsb' 0 8)
/-- `MemWrite(a, 4, v)` (R85). -/
def State.memWrite4 (s : State) (a : Word) (v : Word) : State :=
  (((s.setByte a (v.extractLsb' 24 8)).setByte (a + 1#32) (v.extractLsb' 16 8)).setByte (a + 2#32)
    (v.extractLsb' 8 8)).setByte (a + 3#32) (v.extractLsb' 0 8)

/-- Whether an address holds data memory (R93). -/
def populatedAt (p : Config.Params) (a : Nat) : Bool :=
  p.dmPopulated.any fun r => decide (r.base ≤ a) && decide (a < r.base + r.size)

/-- Whether `n` bytes from an address hold data memory. -/
def populated (p : Config.Params) (a n : Nat) : Bool := (List.range n).all fun k => populatedAt p (a + k)

/-! ### Exceptions (spec/60_exceptions.md) -/

/-- The next word (R36). -/
def State.advance (s : State) : State := { s with pc := s.pc + 1#30 }

/-- `pend E<k>` (R504). -/
def State.pend (s : State) (k : Nat) : State := { s with cr := s.cr ||| (1#32 <<< k) }

/-- `raise E<k>`: the cause bit, the next word, nothing else (R503). -/
def State.raise (s : State) (k : Nat) : State := (s.pend k).advance

/-- Pend a cause if it is signalled. -/
def State.pendIf (s : State) (b : Bool) (k : Nat) : State := if b then s.pend k else s

/-- The FPU's cause outputs pend E10 to E13 (R517). -/
def State.pendCauses (s : State) (c : Causes) : State :=
  (((s.pendIf c.invalid 10).pendIf c.divZero 11).pendIf c.overflow 12).pendIf c.underflow 13

/-- `L[ESP][35:30]`: the causes of lower number pass (R506). -/
def State.levelIdx (s : State) : BitVec 6 := (s.link s.level).extractLsb' 30 6

/-- `Enabled(k)` (R506). -/
def State.enabled (s : State) (k : Nat) : Bool :=
  !s.mr.getLsbD k && !s.mr.getLsbD 32 && (!s.nesting || decide (k < s.levelIdx.toNat))

/-- The pending enabled cause of the lowest number, 1 to 31 (R501, R507). -/
def State.pendingCause (s : State) : Option Nat :=
  (List.range' 1 31).find? fun k => s.cr.getLsbD k && s.enabled k

/-- A link register with the return index written, bits 35:30 unchanged (R520). -/
def linkWithReturn (l : Link) (pc : WordIdx) : Link := l.extractLsb' 30 6 ++ pc
/-- A link register with the cause written in bits 34:30, the other bits unchanged (R520). -/
def linkWithCause (l : Link) (k : Nat) : Link := l.extractLsb' 35 1 ++ BitVec.ofNat 5 k ++ l.extractLsb' 0 30

/-- The return index `Entry(k)` saves: the PC at detection (R520, R547); for an asynchronous cause, E1 or E30, under
`ASYNC_RETURN` = last-pc-plus-1, the index after the instruction executed last (spec/00_scope.md R5, D10, U12; log 20). -/
def State.returnIdx (s : State) (k : Nat) : WordIdx :=
  match s.params.asyncReturn with
  | .nextPc => s.pc
  | .lastPcPlus1 => if k = 1 ∨ k = 30 then s.lastPc + 1#30 else s.pc

/-- TAKING AN EXCEPTION, the part of `Entry(k)` that depends on nesting: where the return index goes (R520). -/
def State.saveReturn (s : State) (k : Nat) : State :=
  if s.nesting then
    let t := s.setLink s.esp (linkWithReturn (s.link s.esp) (s.returnIdx k))
    let top := s.esp + 1#5
    { t.setLink top (linkWithCause (t.link top) k) with esp := top }
  else
    { s.setLink 0#5 (linkWithReturn (s.link 0#5) (s.returnIdx k)) with mr := s.mr ||| 0x100000000#33 }

/-- TAKING AN EXCEPTION: `Entry(k)` (R520, R546). -/
def State.enter (s : State) (k : Nat) : State :=
  let t := s.saveReturn k
  { t with
    pc := BitVec.ofNat 30 k
    cr := t.cr &&& ~~~(1#32 <<< k)
    cfg := t.cfg &&& 0b111110#6
    iack := if k = 30 then true else t.iack }

/-- RETURNING FROM AN EXCEPTION in supervisor mode (R525, spec/46_control.md R412). -/
def State.leave (s : State) : State :=
  if s.nesting then
    let top := s.esp - 1#5
    { s with esp := top, pc := (s.link top).extractLsb' 0 30, cfg := s.cfg ||| 1#6 }
  else
    { s with pc := (s.link 0#5).extractLsb' 0 30, mr := s.mr &&& 0x0FFFFFFFF#33, cfg := s.cfg ||| 1#6 }

/-- Detection (R501 step 2). -/
def State.detect (s : State) : State :=
  match s.pendingCause with
  | some k => s.enter k
  | none => s

/-! ### The environment (R66) -/

/-- `TimerTick` (R541). -/
def State.timerTick (s : State) : State :=
  if s.tmr = 0#32 then
    if s.autoStop then s else { s with tmr := s.reload }
  else
    let t := { s with tmr := s.tmr - 1#32 }
    if t.tmr = 0#32 then t.pend 1 else t

/-- The `Reset` event: every register to its reset value, both memories unchanged (spec/70_reset_and_hazards.md R570).
The parameters, the environment's inputs and what it has been sent are no registers and stay. -/
def State.resetEvent (s : State) : State :=
  { State.reset with
    params := s.params, inputs := s.inputs, dm := s.dm, im := s.im, drawn := s.drawn, periphOut := s.periphOut }

/-- `PeripheralPost(pra, prd)` (R551). -/
def State.post (s : State) (pra prd : Word) : State := { s with pra := pra, prd := prd }

/-- `IrqRaise` (R547, R546). -/
def State.irqRaise (s : State) : State := { s.pend 30 with iack := false }

/-- One event. -/
def State.event (s : State) : EnvEvent → State
  | .reset => s.resetEvent
  | .tick => s.timerTick
  | .irqRaise none => s.irqRaise
  | .irqRaise (some (pra, prd)) => s.irqRaise.post pra prd
  | .peripheralPost pra prd => s.post pra prd

/-- The events of an input with the clock: at least one tick stands between two instructions, and where an input lists
none it comes after its other events (R544, U14; log 3). -/
def clocked (evs : List EnvEvent) : List EnvEvent := if .tick ∈ evs then evs else evs ++ [.tick]

/-- R501 step 1: the next input of the environment is applied; Reset discards every other event of it (log 22). With no
input listed, one clock passes (R544, log 2). -/
def State.environment (s : State) : State :=
  let evs := s.inputs.headD []
  let t := { s with inputs := s.inputs.tail }
  if .reset ∈ evs then t.resetEvent else (clocked evs).foldl State.event t

end Sys2Proof.Machine
end

