-- ==== Sys2Proof/Machine/Operands.lean ====
section
/-! DEFINITION. The operand forms: effective addresses, pair parity, and the shapes that instructions of one form
share (spec/20_memory.md R87, R91; spec/42_arithmetic.md R260 to R263; spec/43_cordic_2op.md R312; spec/47_conversion.md
R451). A shape takes the operation and the operands; each instruction's meaning stands in its family's file. -/

namespace Sys2Proof.Machine

/-- The instruction completes: the next word. -/
def done (s : State) : Result := .next s.advance

/-- An odd register number (R514, R515). -/
def odd (r : RegNum) : Bool := r.getLsbD 0

/-! ### Memory -/

/-- The effective address, R[base] + sext_32(dis16) (R91). -/
def State.ea (s : State) (base : RegNum) (dis : BitVec 16) : Word := s.reg base + dis.signExtend 32

/-- An access of `n` bytes: E3 if it is not aligned (R87), a fault where there is no memory (R93, log 5, log 30). -/
def withAccess (s : State) (n : Nat) (a : Word) (k : Result) : Result :=
  if a.toNat % n = 0 then
    if populated s.params a.toNat n then k else .fault .unpopulatedData
  else .next (s.raise 3)

/-- A load into a GPR: the data is written, the stored flags stay (spec/41_memory_transfer.md R233). -/
def loadGpr (n : Nat) (value : State → Word → Word) (dst base : RegNum) (dis : BitVec 16) (s : State) : Result :=
  withAccess s n (s.ea base dis) (done (s.setReg dst (value s (s.ea base dis))))

/-- A store (R233, R244). -/
def store (n : Nat) (write : State → Word → State) (base : RegNum) (dis : BitVec 16) (s : State) : Result :=
  withAccess s n (s.ea base dis) (done (write s (s.ea base dis)))

/-! ### Integer forms -/

/-- Type 2 group C: a register and an extended immediate (R264 to R267). -/
def immediateW (op : Word → Word → AluOut 32) (y : Word) (dst src : RegNum) (s : State) : Result :=
  done (s.writeW dst (op (s.reg src) y))

/-- `.w`, one source. -/
def unaryW (op : Word → AluOut 32) (dst src : RegNum) (s : State) : Result :=
  done (s.writeW dst (op (s.reg src)))

/-- `.l`, one source: E4 for an odd register (R262). -/
def unaryL (op : Long → AluOut 64) (dst src : RegNum) (s : State) : Result :=
  if odd dst || odd src then .next (s.raise 4) else done (s.writeL dst (op (s.pair src)))

/-- `.w`, two sources. -/
def binaryW (op : Word → Word → AluOut 32) (dst s1 s2 : RegNum) (s : State) : Result :=
  done (s.writeW dst (op (s.reg s1) (s.reg s2)))

/-- `.l`, two sources: E4 for an odd register (R262). -/
def binaryL (op : Long → Long → AluOut 64) (dst s1 s2 : RegNum) (s : State) : Result :=
  if odd dst || odd s1 || odd s2 then .next (s.raise 4) else done (s.writeL dst (op (s.pair s1) (s.pair s2)))

/-- `.w` with a divisor: E6 when it is zero (R516). -/
def divideW (op : Word → Word → AluOut 32) (dst s1 s2 : RegNum) (s : State) : Result :=
  if s.reg s2 = 0#32 then .next (s.raise 6) else binaryW op dst s1 s2 s

/-- `.l` with a divisor: E4 first, then E7 when it is zero (R260, R516). -/
def divideL (op : Long → Long → AluOut 64) (dst s1 s2 : RegNum) (s : State) : Result :=
  if odd dst || odd s1 || odd s2 then .next (s.raise 4)
  else if s.pair s2 = 0#64 then .next (s.raise 7)
  else binaryL op dst s1 s2 s

/-! ### Floating point forms -/

/-- `.f` on the FPU: E8 without one; the causes are pended and the result is written (R263). -/
def fpuF (op : FpuOp) (dst s1 s2 : RegNum) (s : State) : Result :=
  if s.params.hasFpu then
    let r := op.single s.rnd (s.freg s1) (s.freg s2)
    done ((s.pendCauses r.causes).writeF dst (fpOut32 (r.res.bits32 s.drawn))).draw
  else .next (s.raise 8)

/-- `.d` on the FPU: E8, then E5 for an odd register (R260, R263). -/
def fpuD (op : FpuOp) (dst s1 s2 : RegNum) (s : State) : Result :=
  if s.params.hasFpu then
    if odd dst || odd s1 || odd s2 then .next (s.raise 5)
    else
      let r := op.double s.rnd (s.fpair s1) (s.fpair s2)
      done ((s.pendCauses r.causes).writeD dst (fpOut64 (r.res.bits64 s.drawn)))
  else .next (s.raise 8)

/-! ### Cordic forms (R312, spec/44_cordic_3op.md R362): E2 without the cordic unit, then E9 without the FPU for `.f` and
`.d`, then the parity of pairs -/

/-- The check that the cordic unit is there. -/
def needCordic (s : State) (k : Result) : Result := if s.params.hasCordic then k else .next (s.raise 2)
/-- The check of the extended operations. -/
def needCordicFpu (s : State) (k : Result) : Result :=
  needCordic s (if s.params.hasFpu then k else .next (s.raise 9))

/-- `.w`, one source (R310, R311). -/
def cordic1W (fn : Config.Cordic1Fn) (dst src : RegNum) (s : State) : Result :=
  needCordic s (unaryW (fun x => let r := Config.cordic1 fn .w x s.rnd; aluOut r.1 r.2) dst src s)
/-- `.l`, one source. -/
def cordic1L (fn : Config.Cordic1Fn) (dst src : RegNum) (s : State) : Result :=
  needCordic s (unaryL (fun x => let r := Config.cordic1 fn .l x s.rnd; aluOut r.1 r.2) dst src s)
/-- `.f`, one source. -/
def cordic1F (fn : Config.Cordic1Fn) (dst src : RegNum) (s : State) : Result :=
  needCordicFpu s (done (s.writeF dst (fpOut32 (Config.cordic1 fn .f (s.freg src) s.rnd).1)))
/-- `.d`, one source. -/
def cordic1D (fn : Config.Cordic1Fn) (dst src : RegNum) (s : State) : Result :=
  needCordicFpu s
    (if odd dst || odd src then .next (s.raise 5)
     else done (s.writeD dst (fpOut64 (Config.cordic1 fn .d (s.fpair src) s.rnd).1)))
/-- `.w`, two sources (spec/44_cordic_3op.md R360, R361). -/
def cordic2W (fn : Config.Cordic2Fn) (dst s1 s2 : RegNum) (s : State) : Result :=
  needCordic s (binaryW (fun x y => let r := Config.cordic2 fn .w x y s.rnd; aluOut r.1 r.2) dst s1 s2 s)
/-- `.l`, two sources. -/
def cordic2L (fn : Config.Cordic2Fn) (dst s1 s2 : RegNum) (s : State) : Result :=
  needCordic s (binaryL (fun x y => let r := Config.cordic2 fn .l x y s.rnd; aluOut r.1 r.2) dst s1 s2 s)
/-- `.f`, two sources. -/
def cordic2F (fn : Config.Cordic2Fn) (dst s1 s2 : RegNum) (s : State) : Result :=
  needCordicFpu s (done (s.writeF dst (fpOut32 (Config.cordic2 fn .f (s.freg s1) (s.freg s2) s.rnd).1)))
/-- `.d`, two sources. -/
def cordic2D (fn : Config.Cordic2Fn) (dst s1 s2 : RegNum) (s : State) : Result :=
  needCordicFpu s
    (if odd dst || odd s1 || odd s2 then .next (s.raise 5)
     else done (s.writeD dst (fpOut64 (Config.cordic2 fn .d (s.fpair s1) (s.fpair s2) s.rnd).1)))

/-! ### Conversions (spec/47_conversion.md) -/

/-- The exact result of a conversion where constraint E fixes it, in the low bits; a 32-bit source stands
zero-extended (R450). -/
def cnvExact (kind : Config.CnvKind) (x : Long) : Option Long :=
  let w := x.extractLsb' 0 32
  let toFloat (f : FpFmt) (v : FpVal) : Option Long :=
    match v with
    | .nan _ => none
    | .inf neg => some (BitVec.ofNat 64 (signMag f neg f.infMag))
    | .fin neg m e => (exactFloat f neg m e).map (BitVec.ofNat 64)
  let ofInteger (f : FpFmt) (v : Int) : Option Long :=
    (exactFloat f (decide (v < 0)) v.natAbs 0).map (BitVec.ofNat 64)
  let toInteger (n : Nat) (v : FpVal) : Option Long :=
    match v with
    | .nan _ | .inf _ => none
    | .fin neg m e => (exactInt n neg m e).map (BitVec.setWidth 64)
  match kind with
  | .f2d => toFloat .double (unpack .single w.toNat)
  | .d2f => toFloat .single (unpack .double x.toNat)
  | .f2w => toInteger 32 (unpack .single w.toNat)
  | .d2w => toInteger 32 (unpack .double x.toNat)
  | .f2l => toInteger 64 (unpack .single w.toNat)
  | .d2l => toInteger 64 (unpack .double x.toNat)
  | .w2f => ofInteger .single w.toInt
  | .w2d => ofInteger .double w.toInt
  | .l2f => ofInteger .single x.toInt
  | .l2d => ofInteger .double x.toInt

/-- `CNV(kind, x, rnd)`: exact where constraint E holds, free elsewhere (R450, log 10). -/
def cnv (kind : Config.CnvKind) (x : Long) (rnd : Config.Rnd) : Long × BitVec 2 :=
  ((cnvExact kind x).getD (Config.cnvRes kind x rnd), Config.cnvCV kind x rnd)

/-- E8 without an FPU (R451 (1)). -/
def needFpu (s : State) (k : Result) : Result := if s.params.hasFpu then k else .next (s.raise 8)

/-- A conversion with a word destination (R452). -/
def cnvToW (kind : Config.CnvKind) (x : Long) (dst : RegNum) (s : State) : Result :=
  let r := cnv kind x s.rnd
  done (s.writeW dst (aluOut (r.1.extractLsb' 0 32) r.2))
/-- A conversion with a long destination. -/
def cnvToL (kind : Config.CnvKind) (x : Long) (dst : RegNum) (s : State) : Result :=
  let r := cnv kind x s.rnd
  done (s.writeL dst (aluOut r.1 r.2))
/-- A conversion with a float destination. -/
def cnvToF (kind : Config.CnvKind) (x : Long) (dst : RegNum) (s : State) : Result :=
  done (s.writeF dst (fpOut32 ((cnv kind x s.rnd).1.extractLsb' 0 32)))
/-- A conversion with a double destination. -/
def cnvToD (kind : Config.CnvKind) (x : Long) (dst : RegNum) (s : State) : Result :=
  done (s.writeD dst (fpOut64 (cnv kind x s.rnd).1))

/-! ### Control -/

/-- A conditional branch (spec/46_control.md R416). -/
def branch (taken : Bool) (dis : BitVec 17) (s : State) : Result :=
  .next { s with pc := if taken then s.pc + 1#30 + dis.signExtend 30 else s.pc + 1#30 }

/-- The link value of jal and jral, `(PC + 1) # 0b00` (R441). -/
def State.linkValue (s : State) : Word := (s.pc + 1#30) ++ 0#2

/-- The target of jr and jral, bits 31:2 of a register (R441). -/
def State.regTarget (s : State) (src : RegNum) : WordIdx := (s.reg src).extractLsb' 2 30

/-! ### Flag nibbles (spec/40_register_transfer.md R210) -/

/-- The nibble `nib` of a word. -/
def nibbleOf (w : Word) (nib : BitVec 3) : BitVec 4 := (w >>> (4 * nib.toNat)).extractLsb' 0 4

/-- A word with its nibble `nib` replaced. -/
def withNibble (w : Word) (nib : BitVec 3) (x : BitVec 4) : Word :=
  (w &&& ~~~(0xF#32 <<< (4 * nib.toNat))) ||| (x.setWidth 32 <<< (4 * nib.toNat))

/-- Four flags as a nibble, first one highest. -/
def nibbleOfFlags (f3 f2 f1 f0 : Bool) : BitVec 4 :=
  BitVec.ofBool f3 ++ BitVec.ofBool f2 ++ BitVec.ofBool f1 ++ BitVec.ofBool f0

/-- A GPR's flags c # v # z # n as a nibble (R212). -/
def Gpr.nibble (g : Gpr) : BitVec 4 := nibbleOfFlags g.c g.v g.z g.val.msb
/-- An FPR's flags a # i # z # n as a nibble (R214). -/
def Fpr.nibble (g : Fpr) : BitVec 4 := nibbleOfFlags g.a g.i g.z g.val.msb

/-- GPR flags into an FPR's places: c to a, v to i, z to z (R205). -/
def Gpr.toFpr (g : Gpr) : Fpr := ⟨g.val, g.c, g.v, g.z⟩
/-- FPR flags into a GPR's places: a to c, i to v, z to z (R204). -/
def Fpr.toGpr (g : Fpr) : Gpr := ⟨g.val, g.a, g.i, g.z⟩

end Sys2Proof.Machine
end

