-- ==== Sys2Proof/Machine/Cycle.lean ====
section
/-! DEFINITION. One step of the machine around the meaning of its instruction: the environment, detection, the
fetch and what a word without a meaning does (spec/60_exceptions.md R501; spec/30_encoding.md R119, R127, R128). -/

namespace Sys2Proof.Machine

/-- `IM[w]`, assembled big-endian; `none` where the platform holds no whole word (spec/20_memory.md R90, log 6). -/
def State.codeWord (s : State) (w : WordIdx) : Option Word :=
  match s.im.read (4 * w.toNat), s.im.read (4 * w.toNat + 1), s.im.read (4 * w.toNat + 2),
      s.im.read (4 * w.toNat + 3) with
  | some b0, some b1, some b2, some b3 => some (wordOfBytes b0 b1 b2 b3)
  | _, _, _, _ => none

/-- R501 steps 1 and 2: the environment's events, then detection and at most one entry. -/
def State.begin (s : State) : State := s.environment.detect

/-- Step (4) of R128 on a fetched word, `run` being the meaning of an instruction. A word that selects no instruction
raises E2 (R127); `UNDEF_BITS_POLICY` says what non-zero undefined bits do (R119, log 15). They are checked before the instruction's own
rule as R128 step (4) has it, also for a cordic word without the cordic unit, whose encoding R312 (1) of
spec/43_cordic_2op.md and R362 of spec/44_cordic_3op.md make unassigned: under policy refuse such a word with a non-zero
undefined bit is refused and does not raise E2 (DESIGN CHOICE, log 31). -/
def runWord (run : Instr → State → Result) (w : Word) (s : State) : Result :=
  match decode s.params w with
  | .ok i => run i s
  | .unassigned => .next (s.raise 2)
  | .undefinedBits i =>
    match s.params.undefBits with
    | .refuse => .refused .undefinedBits
    | .ignore => run i s
    | .raiseE2 => .next (s.raise 2)

/-- `IR <- IM[PC]` (R9); the index fetched from is that of the instruction executed last from here on (log 20). -/
def State.fetched (s : State) (w : Word) : State := { s with ir := w, lastPc := s.pc }

/-- The step of R501: the fetch before the instruction. -/
def cycle (run : Instr → State → Result) (s : State) : Result :=
  let t := s.begin
  match t.codeWord t.pc with
  | none => .fault .unpopulatedCode
  | some w => runWord run w (t.fetched w)

/-- Four bytes of the instruction memory written by the platform (R97). -/
def State.placeWord (s : State) (w : WordIdx) (x : Word) : State :=
  { s with
    im := (((s.im.write (4 * w.toNat) (x.extractLsb' 24 8)).write (4 * w.toNat + 1) (x.extractLsb' 16 8)).write
      (4 * w.toNat + 2) (x.extractLsb' 8 8)).write (4 * w.toNat + 3) (x.extractLsb' 0 8) }

end Sys2Proof.Machine
end

