-- ==== Sys2Proof/Machine/Arithmetic.lean ====
section
/-! DEFINITION. The meanings of the arithmetic instructions (spec/42_arithmetic.md). -/

namespace Sys2Proof.Machine

/-- `addi.w` (R264) -/
def execAddiW (dst src : RegNum) (imm : BitVec 16) (s : State) : Result :=
  immediateW aluAdd (imm.signExtend 32) dst src s

/-- `addui.w` (R265) -/
def execAdduiW (dst src : RegNum) (imm : BitVec 16) (s : State) : Result :=
  immediateW aluAdd (imm.setWidth 32) dst src s

/-- `subi.w` (R266) -/
def execSubiW (dst src : RegNum) (imm : BitVec 16) (s : State) : Result :=
  immediateW aluSub (imm.signExtend 32) dst src s

/-- `subui.w` (R267) -/
def execSubuiW (dst src : RegNum) (imm : BitVec 16) (s : State) : Result :=
  immediateW aluSub (imm.setWidth 32) dst src s

/-- `add.w` (R268) -/
def execAddW (dst s1 s2 : RegNum) (s : State) : Result :=
  binaryW aluAdd dst s1 s2 s

/-- `add.l` (R269) -/
def execAddL (dst s1 s2 : RegNum) (s : State) : Result :=
  binaryL aluAdd dst s1 s2 s

/-- `add.f` (R270) -/
def execAddF (dst s1 s2 : RegNum) (s : State) : Result :=
  fpuF fpAdd dst s1 s2 s

/-- `add.d` (R271) -/
def execAddD (dst s1 s2 : RegNum) (s : State) : Result :=
  fpuD fpAdd dst s1 s2 s

/-- `sub.w` (R272) -/
def execSubW (dst s1 s2 : RegNum) (s : State) : Result :=
  binaryW aluSub dst s1 s2 s

/-- `sub.l` (R273) -/
def execSubL (dst s1 s2 : RegNum) (s : State) : Result :=
  binaryL aluSub dst s1 s2 s

/-- `sub.f` (R274) -/
def execSubF (dst s1 s2 : RegNum) (s : State) : Result :=
  fpuF fpSub dst s1 s2 s

/-- `sub.d` (R275) -/
def execSubD (dst s1 s2 : RegNum) (s : State) : Result :=
  fpuD fpSub dst s1 s2 s

/-- `mult.w` (R276) -/
def execMultW (dst s1 s2 : RegNum) (s : State) : Result :=
  binaryW aluMult dst s1 s2 s

/-- `mult.l` (R277): `MULT_L_MODE` chooses the reading (D17, log 19). -/
def execMultL (dst s1 s2 : RegNum) (s : State) : Result :=
  match s.params.multLMode with
  | .pairByPair => binaryL aluMult dst s1 s2 s
  | .wordByWord =>
    if odd dst then .next (s.raise 4)
    else done (s.writeL dst (aluMult (extendWord (s.reg s1)) (extendWord (s.reg s2))))

/-- `mult.f` (R278) -/
def execMultF (dst s1 s2 : RegNum) (s : State) : Result :=
  fpuF fpMul dst s1 s2 s

/-- `mult.d` (R279) -/
def execMultD (dst s1 s2 : RegNum) (s : State) : Result :=
  fpuD fpMul dst s1 s2 s

/-- `div.w` (R280) -/
def execDivW (dst s1 s2 : RegNum) (s : State) : Result :=
  divideW (aluDiv s.params.divSigned) dst s1 s2 s

/-- `div.l` (R281) -/
def execDivL (dst s1 s2 : RegNum) (s : State) : Result :=
  divideL (aluDiv s.params.divSigned) dst s1 s2 s

/-- `div.f` (R282) -/
def execDivF (dst s1 s2 : RegNum) (s : State) : Result :=
  fpuF fpDiv dst s1 s2 s

/-- `div.d` (R283) -/
def execDivD (dst s1 s2 : RegNum) (s : State) : Result :=
  fpuD fpDiv dst s1 s2 s

/-- `rem.w` (R284) -/
def execRemW (dst s1 s2 : RegNum) (s : State) : Result :=
  divideW (aluRem s.params.divSigned) dst s1 s2 s

/-- `rem.l` (R285) -/
def execRemL (dst s1 s2 : RegNum) (s : State) : Result :=
  divideL (aluRem s.params.divSigned) dst s1 s2 s

/-- `rl.w` (R286) -/
def execRlW (dst s1 s2 : RegNum) (s : State) : Result :=
  binaryW aluRl dst s1 s2 s

/-- `rl.l` (R287) -/
def execRlL (dst s1 s2 : RegNum) (s : State) : Result :=
  binaryL aluRl dst s1 s2 s

/-- `rr.w` (R288) -/
def execRrW (dst s1 s2 : RegNum) (s : State) : Result :=
  binaryW aluRr dst s1 s2 s

/-- `rr.l` (R289) -/
def execRrL (dst s1 s2 : RegNum) (s : State) : Result :=
  binaryL aluRr dst s1 s2 s

/-- `sl.w` (R290) -/
def execSlW (dst s1 s2 : RegNum) (s : State) : Result :=
  binaryW aluSl dst s1 s2 s

/-- `sl.l` (R291) -/
def execSlL (dst s1 s2 : RegNum) (s : State) : Result :=
  binaryL aluSl dst s1 s2 s

/-- `sra.w` (R292) -/
def execSraW (dst s1 s2 : RegNum) (s : State) : Result :=
  binaryW aluSra dst s1 s2 s

/-- `sra.l` (R293) -/
def execSraL (dst s1 s2 : RegNum) (s : State) : Result :=
  binaryL aluSra dst s1 s2 s

end Sys2Proof.Machine
end

