-- ==== Sys2Proof/Machine/Control.lean ====
section
/-! DEFINITION. The meanings of the control instructions (spec/46_control.md); no delay slot (R440). -/

namespace Sys2Proof.Machine

/-- `j` (R410): `J_DISP_BITS` low bits are the displacement (spec/30_encoding.md R118, D2, log 16). -/
def execJ (dis : BitVec 28) (s : State) : Result :=
  let d : WordIdx := match s.params.jDispBits with
    | .bits26 => (dis.extractLsb' 0 26).signExtend 30
    | .bits28 => dis.signExtend 30
  .next { s with pc := s.pc + 1#30 + d }

/-- `trap` (R411) -/
def execTrap (s : State) : Result :=
  done (s.pend 31)

/-- `rfe` (R412): privileged. -/
def execRfe (s : State) : Result :=
  if s.userMode then .next (s.raise 2) else .next s.leave

/-- `jr` (R413) -/
def execJr (src : RegNum) (s : State) : Result :=
  .next { s with pc := s.regTarget src }

/-- `jal` (R414) -/
def execJal (dst : RegNum) (dis : BitVec 16) (s : State) : Result :=
  .next { s.setReg dst s.linkValue with pc := s.pc + 1#30 + dis.signExtend 30 }

/-- `jral` (R415): the target is read before the link is written. -/
def execJral (dst src : RegNum) (s : State) : Result :=
  .next { s.setReg dst s.linkValue with pc := s.regTarget src }

/-- `bc` (R417) -/
def execBc (src : RegNum) (dis : BitVec 17) (s : State) : Result :=
  branch (s.gpr src).c dis s

/-- `bv` (R418) -/
def execBv (src : RegNum) (dis : BitVec 17) (s : State) : Result :=
  branch (s.gpr src).v dis s

/-- `bz` (R419) -/
def execBz (src : RegNum) (dis : BitVec 17) (s : State) : Result :=
  branch (s.gpr src).z dis s

/-- `bn` (R420) -/
def execBn (src : RegNum) (dis : BitVec 17) (s : State) : Result :=
  branch (s.reg src).msb dis s

/-- `bnc` (R421) -/
def execBnc (src : RegNum) (dis : BitVec 17) (s : State) : Result :=
  branch (!(s.gpr src).c) dis s

/-- `bnv` (R422) -/
def execBnv (src : RegNum) (dis : BitVec 17) (s : State) : Result :=
  branch (!(s.gpr src).v) dis s

/-- `bnz` (R423) -/
def execBnz (src : RegNum) (dis : BitVec 17) (s : State) : Result :=
  branch (!(s.gpr src).z) dis s

/-- `bnn` (R424) -/
def execBnn (src : RegNum) (dis : BitVec 17) (s : State) : Result :=
  branch (!(s.reg src).msb) dis s

/-- `bfpan` (R425) -/
def execBfpan (src : RegNum) (dis : BitVec 17) (s : State) : Result :=
  branch (s.fpr src).a dis s

/-- `bfpinf` (R426) -/
def execBfpinf (src : RegNum) (dis : BitVec 17) (s : State) : Result :=
  branch (s.fpr src).i dis s

/-- `bfpz` (R427) -/
def execBfpz (src : RegNum) (dis : BitVec 17) (s : State) : Result :=
  branch (s.fpr src).z dis s

/-- `bfpn` (R428) -/
def execBfpn (src : RegNum) (dis : BitVec 17) (s : State) : Result :=
  branch (s.freg src).msb dis s

/-- `bfpnan` (R429) -/
def execBfpnan (src : RegNum) (dis : BitVec 17) (s : State) : Result :=
  branch (!(s.fpr src).a) dis s

/-- `bfpninf` (R430) -/
def execBfpninf (src : RegNum) (dis : BitVec 17) (s : State) : Result :=
  branch (!(s.fpr src).i) dis s

/-- `bfpnz` (R431) -/
def execBfpnz (src : RegNum) (dis : BitVec 17) (s : State) : Result :=
  branch (!(s.fpr src).z) dis s

/-- `bfpnn` (R432) -/
def execBfpnn (src : RegNum) (dis : BitVec 17) (s : State) : Result :=
  branch (!(s.freg src).msb) dis s

end Sys2Proof.Machine
end

