-- ==== Sys2Proof/Machine/Conversion.lean ====
section
/-! DEFINITION. The meanings of the data type conversion instructions (spec/47_conversion.md). -/

namespace Sys2Proof.Machine

/-- `cnvf2d` (R453) -/
def execCnvf2d (dst src : RegNum) (s : State) : Result :=
  needFpu s (if odd dst then .next (s.raise 5) else cnvToD .f2d ((s.freg src).setWidth 64) dst s)

/-- `cnvd2f` (R454) -/
def execCnvd2f (dst src : RegNum) (s : State) : Result :=
  needFpu s (if odd src then .next (s.raise 5) else cnvToF .d2f (s.fpair src) dst s)

/-- `cnvf2w` (R455) -/
def execCnvf2w (dst src : RegNum) (s : State) : Result :=
  needFpu s (cnvToW .f2w ((s.freg src).setWidth 64) dst s)

/-- `cnvw2f` (R456) -/
def execCnvw2f (dst src : RegNum) (s : State) : Result :=
  needFpu s (cnvToF .w2f ((s.reg src).setWidth 64) dst s)

/-- `cnvd2w` (R457) -/
def execCnvd2w (dst src : RegNum) (s : State) : Result :=
  needFpu s (if odd src then .next (s.raise 5) else cnvToW .d2w (s.fpair src) dst s)

/-- `cnvw2d` (R458) -/
def execCnvw2d (dst src : RegNum) (s : State) : Result :=
  needFpu s (if odd dst then .next (s.raise 5) else cnvToD .w2d ((s.reg src).setWidth 64) dst s)

/-- `cnvf2l` (R459) -/
def execCnvf2l (dst src : RegNum) (s : State) : Result :=
  needFpu s (if odd dst then .next (s.raise 4) else cnvToL .f2l ((s.freg src).setWidth 64) dst s)

/-- `cnvl2f` (R460) -/
def execCnvl2f (dst src : RegNum) (s : State) : Result :=
  needFpu s (if odd src then .next (s.raise 4) else cnvToF .l2f (s.pair src) dst s)

/-- `cnvd2l` (R461) -/
def execCnvd2l (dst src : RegNum) (s : State) : Result :=
  needFpu s (if odd dst then .next (s.raise 4) else if odd src then .next (s.raise 5) else cnvToL .d2l (s.fpair src) dst s)

/-- `cnvl2d` (R462) -/
def execCnvl2d (dst src : RegNum) (s : State) : Result :=
  needFpu s (if odd dst then .next (s.raise 5) else if odd src then .next (s.raise 4) else cnvToD .l2d (s.pair src) dst s)

end Sys2Proof.Machine
end

