-- ==== Sys2Proof/Machine/Cordic.lean ====
section
/-! DEFINITION. The meanings of the cordic instructions (spec/43_cordic_2op.md, spec/44_cordic_3op.md); their results are the free functions `CORDIC1` and `CORDIC2` (log 11). -/

namespace Sys2Proof.Machine

/-- `cos.w` (R315) -/
def execCosW (dst src : RegNum) (s : State) : Result :=
  cordic1W .cos dst src s

/-- `cos.l` (R316) -/
def execCosL (dst src : RegNum) (s : State) : Result :=
  cordic1L .cos dst src s

/-- `cos.f` (R317) -/
def execCosF (dst src : RegNum) (s : State) : Result :=
  cordic1F .cos dst src s

/-- `cos.d` (R318) -/
def execCosD (dst src : RegNum) (s : State) : Result :=
  cordic1D .cos dst src s

/-- `cosh.w` (R319) -/
def execCoshW (dst src : RegNum) (s : State) : Result :=
  cordic1W .cosh dst src s

/-- `cosh.l` (R320) -/
def execCoshL (dst src : RegNum) (s : State) : Result :=
  cordic1L .cosh dst src s

/-- `cosh.f` (R321) -/
def execCoshF (dst src : RegNum) (s : State) : Result :=
  cordic1F .cosh dst src s

/-- `cosh.d` (R322) -/
def execCoshD (dst src : RegNum) (s : State) : Result :=
  cordic1D .cosh dst src s

/-- `sin.w` (R323) -/
def execSinW (dst src : RegNum) (s : State) : Result :=
  cordic1W .sin dst src s

/-- `sin.l` (R324) -/
def execSinL (dst src : RegNum) (s : State) : Result :=
  cordic1L .sin dst src s

/-- `sin.f` (R325) -/
def execSinF (dst src : RegNum) (s : State) : Result :=
  cordic1F .sin dst src s

/-- `sin.d` (R326) -/
def execSinD (dst src : RegNum) (s : State) : Result :=
  cordic1D .sin dst src s

/-- `sinh.w` (R327) -/
def execSinhW (dst src : RegNum) (s : State) : Result :=
  cordic1W .sinh dst src s

/-- `sinh.l` (R328) -/
def execSinhL (dst src : RegNum) (s : State) : Result :=
  cordic1L .sinh dst src s

/-- `sinh.f` (R329) -/
def execSinhF (dst src : RegNum) (s : State) : Result :=
  cordic1F .sinh dst src s

/-- `sinh.d` (R330) -/
def execSinhD (dst src : RegNum) (s : State) : Result :=
  cordic1D .sinh dst src s

/-- `sqrt1msq.w` (R331) -/
def execSqrt1msqW (dst src : RegNum) (s : State) : Result :=
  cordic1W .sqrt1msq dst src s

/-- `sqrt1msq.l` (R332) -/
def execSqrt1msqL (dst src : RegNum) (s : State) : Result :=
  cordic1L .sqrt1msq dst src s

/-- `sqrt1msq.f` (R333) -/
def execSqrt1msqF (dst src : RegNum) (s : State) : Result :=
  cordic1F .sqrt1msq dst src s

/-- `sqrt1msq.d` (R334) -/
def execSqrt1msqD (dst src : RegNum) (s : State) : Result :=
  cordic1D .sqrt1msq dst src s

/-- `sqrt1psq.w` (R335) -/
def execSqrt1psqW (dst src : RegNum) (s : State) : Result :=
  cordic1W .sqrt1psq dst src s

/-- `sqrt1psq.l` (R336) -/
def execSqrt1psqL (dst src : RegNum) (s : State) : Result :=
  cordic1L .sqrt1psq dst src s

/-- `sqrt1psq.f` (R337) -/
def execSqrt1psqF (dst src : RegNum) (s : State) : Result :=
  cordic1F .sqrt1psq dst src s

/-- `sqrt1psq.d` (R338) -/
def execSqrt1psqD (dst src : RegNum) (s : State) : Result :=
  cordic1D .sqrt1psq dst src s

/-- `atan.w` (R339) -/
def execAtanW (dst src : RegNum) (s : State) : Result :=
  cordic1W .atan dst src s

/-- `atan.l` (R340) -/
def execAtanL (dst src : RegNum) (s : State) : Result :=
  cordic1L .atan dst src s

/-- `atan.f` (R341) -/
def execAtanF (dst src : RegNum) (s : State) : Result :=
  cordic1F .atan dst src s

/-- `atan.d` (R342) -/
def execAtanD (dst src : RegNum) (s : State) : Result :=
  cordic1D .atan dst src s

/-- `atanh.w` (R343) -/
def execAtanhW (dst src : RegNum) (s : State) : Result :=
  cordic1W .atanh dst src s

/-- `atanh.l` (R344) -/
def execAtanhL (dst src : RegNum) (s : State) : Result :=
  cordic1L .atanh dst src s

/-- `atanh.f` (R345) -/
def execAtanhF (dst src : RegNum) (s : State) : Result :=
  cordic1F .atanh dst src s

/-- `atanh.d` (R346) -/
def execAtanhD (dst src : RegNum) (s : State) : Result :=
  cordic1D .atanh dst src s

/-- `ln.w` (R347) -/
def execLnW (dst src : RegNum) (s : State) : Result :=
  cordic1W .ln dst src s

/-- `ln.l` (R348) -/
def execLnL (dst src : RegNum) (s : State) : Result :=
  cordic1L .ln dst src s

/-- `ln.f` (R349) -/
def execLnF (dst src : RegNum) (s : State) : Result :=
  cordic1F .ln dst src s

/-- `ln.d` (R350) -/
def execLnD (dst src : RegNum) (s : State) : Result :=
  cordic1D .ln dst src s

/-- `sqrt.w` (R351) -/
def execSqrtW (dst src : RegNum) (s : State) : Result :=
  cordic1W .sqrt dst src s

/-- `sqrt.l` (R352) -/
def execSqrtL (dst src : RegNum) (s : State) : Result :=
  cordic1L .sqrt dst src s

/-- `sqrt.f` (R353) -/
def execSqrtF (dst src : RegNum) (s : State) : Result :=
  cordic1F .sqrt dst src s

/-- `sqrt.d` (R354) -/
def execSqrtD (dst src : RegNum) (s : State) : Result :=
  cordic1D .sqrt dst src s

/-- `pol2recx.w` (R365) -/
def execPol2recxW (dst s1 s2 : RegNum) (s : State) : Result :=
  cordic2W .pol2recx dst s1 s2 s

/-- `pol2recx.l` (R366) -/
def execPol2recxL (dst s1 s2 : RegNum) (s : State) : Result :=
  cordic2L .pol2recx dst s1 s2 s

/-- `pol2recx.f` (R367) -/
def execPol2recxF (dst s1 s2 : RegNum) (s : State) : Result :=
  cordic2F .pol2recx dst s1 s2 s

/-- `pol2recx.d` (R368) -/
def execPol2recxD (dst s1 s2 : RegNum) (s : State) : Result :=
  cordic2D .pol2recx dst s1 s2 s

/-- `pol2recy.w` (R369) -/
def execPol2recyW (dst s1 s2 : RegNum) (s : State) : Result :=
  cordic2W .pol2recy dst s1 s2 s

/-- `pol2recy.l` (R370) -/
def execPol2recyL (dst s1 s2 : RegNum) (s : State) : Result :=
  cordic2L .pol2recy dst s1 s2 s

/-- `pol2recy.f` (R371) -/
def execPol2recyF (dst s1 s2 : RegNum) (s : State) : Result :=
  cordic2F .pol2recy dst s1 s2 s

/-- `pol2recy.d` (R372) -/
def execPol2recyD (dst s1 s2 : RegNum) (s : State) : Result :=
  cordic2D .pol2recy dst s1 s2 s

/-- `hyp2recx.w` (R373) -/
def execHyp2recxW (dst s1 s2 : RegNum) (s : State) : Result :=
  cordic2W .hyp2recx dst s1 s2 s

/-- `hyp2recx.l` (R374) -/
def execHyp2recxL (dst s1 s2 : RegNum) (s : State) : Result :=
  cordic2L .hyp2recx dst s1 s2 s

/-- `hyp2recx.f` (R375) -/
def execHyp2recxF (dst s1 s2 : RegNum) (s : State) : Result :=
  cordic2F .hyp2recx dst s1 s2 s

/-- `hyp2recx.d` (R376) -/
def execHyp2recxD (dst s1 s2 : RegNum) (s : State) : Result :=
  cordic2D .hyp2recx dst s1 s2 s

/-- `hyp2recy.w` (R377) -/
def execHyp2recyW (dst s1 s2 : RegNum) (s : State) : Result :=
  cordic2W .hyp2recy dst s1 s2 s

/-- `hyp2recy.l` (R378) -/
def execHyp2recyL (dst s1 s2 : RegNum) (s : State) : Result :=
  cordic2L .hyp2recy dst s1 s2 s

/-- `hyp2recy.f` (R379) -/
def execHyp2recyF (dst s1 s2 : RegNum) (s : State) : Result :=
  cordic2F .hyp2recy dst s1 s2 s

/-- `hyp2recy.d` (R380) -/
def execHyp2recyD (dst s1 s2 : RegNum) (s : State) : Result :=
  cordic2D .hyp2recy dst s1 s2 s

/-- `norm.w` (R381) -/
def execNormW (dst s1 s2 : RegNum) (s : State) : Result :=
  cordic2W .norm dst s1 s2 s

/-- `norm.l` (R382) -/
def execNormL (dst s1 s2 : RegNum) (s : State) : Result :=
  cordic2L .norm dst s1 s2 s

/-- `norm.f` (R383) -/
def execNormF (dst s1 s2 : RegNum) (s : State) : Result :=
  cordic2F .norm dst s1 s2 s

/-- `norm.d` (R384) -/
def execNormD (dst s1 s2 : RegNum) (s : State) : Result :=
  cordic2D .norm dst s1 s2 s

/-- `atan2.w` (R385) -/
def execAtan2W (dst s1 s2 : RegNum) (s : State) : Result :=
  cordic2W .atan2 dst s1 s2 s

/-- `atan2.l` (R386) -/
def execAtan2L (dst s1 s2 : RegNum) (s : State) : Result :=
  cordic2L .atan2 dst s1 s2 s

/-- `atan2.f` (R387) -/
def execAtan2F (dst s1 s2 : RegNum) (s : State) : Result :=
  cordic2F .atan2 dst s1 s2 s

/-- `atan2.d` (R388) -/
def execAtan2D (dst s1 s2 : RegNum) (s : State) : Result :=
  cordic2D .atan2 dst s1 s2 s

end Sys2Proof.Machine
end

