-- ==== Sys2Proof/Machine/Logic.lean ====
section
/-! DEFINITION. The meanings of the logic instructions (spec/45_logic.md). -/

namespace Sys2Proof.Machine

/-- `inv.w` (R391) -/
def execInvW (dst src : RegNum) (s : State) : Result :=
  unaryW aluInv dst src s

/-- `inv.l` (R392) -/
def execInvL (dst src : RegNum) (s : State) : Result :=
  unaryL aluInv dst src s

/-- `and.w` (R393) -/
def execAndW (dst s1 s2 : RegNum) (s : State) : Result :=
  binaryW aluAnd dst s1 s2 s

/-- `and.l` (R394) -/
def execAndL (dst s1 s2 : RegNum) (s : State) : Result :=
  binaryL aluAnd dst s1 s2 s

/-- `or.w` (R395) -/
def execOrW (dst s1 s2 : RegNum) (s : State) : Result :=
  binaryW aluOr dst s1 s2 s

/-- `or.l` (R396) -/
def execOrL (dst s1 s2 : RegNum) (s : State) : Result :=
  binaryL aluOr dst s1 s2 s

/-- `xor.w` (R397) -/
def execXorW (dst s1 s2 : RegNum) (s : State) : Result :=
  binaryW aluXor dst s1 s2 s

/-- `xor.l` (R398) -/
def execXorL (dst s1 s2 : RegNum) (s : State) : Result :=
  binaryL aluXor dst s1 s2 s

/-- `srl.w` (R399) -/
def execSrlW (dst s1 s2 : RegNum) (s : State) : Result :=
  binaryW aluSrl dst s1 s2 s

/-- `srl.l` (R400) -/
def execSrlL (dst s1 s2 : RegNum) (s : State) : Result :=
  binaryL aluSrl dst s1 s2 s

end Sys2Proof.Machine
end

