-- ==== Sys2Proof/Machine/MemoryTransfer.lean ====
section
/-! DEFINITION. The meanings of the memory data transfer instructions (spec/41_memory_transfer.md). -/

namespace Sys2Proof.Machine

/-- `loadi` (R230) -/
def execLoadi (dst : RegNum) (imm : BitVec 16) (s : State) : Result :=
  done (s.setReg dst (imm.signExtend 32))

/-- `loadui` (R231) -/
def execLoadui (dst : RegNum) (imm : BitVec 16) (s : State) : Result :=
  done (s.setReg dst (imm.setWidth 32))

/-- `lhi` (R232): the low half stays. -/
def execLhi (dst : RegNum) (imm : BitVec 16) (s : State) : Result :=
  done (s.setReg dst (imm ++ (s.reg dst).extractLsb' 0 16))

/-- `load.b` (R234) -/
def execLoadB (dst base : RegNum) (dis : BitVec 16) (s : State) : Result :=
  loadGpr 1 (fun t a => (t.memRead1 a).signExtend 32) dst base dis s

/-- `loadu.b` (R235) -/
def execLoaduB (dst base : RegNum) (dis : BitVec 16) (s : State) : Result :=
  loadGpr 1 (fun t a => (t.memRead1 a).setWidth 32) dst base dis s

/-- `load.h` (R236) -/
def execLoadH (dst base : RegNum) (dis : BitVec 16) (s : State) : Result :=
  loadGpr 2 (fun t a => (t.memRead2 a).signExtend 32) dst base dis s

/-- `loadu.h` (R237) -/
def execLoaduH (dst base : RegNum) (dis : BitVec 16) (s : State) : Result :=
  loadGpr 2 (fun t a => (t.memRead2 a).setWidth 32) dst base dis s

/-- `load.w` (R238) -/
def execLoadW (dst base : RegNum) (dis : BitVec 16) (s : State) : Result :=
  loadGpr 4 State.memRead4 dst base dis s

/-- `load.f` (R239): a, i, z stay (R28); no FPU needed (D18). -/
def execLoadF (dst base : RegNum) (dis : BitVec 16) (s : State) : Result :=
  withAccess s 4 (s.ea base dis) (done (s.setFreg dst (s.memRead4 (s.ea base dis))))

/-- `store.b` (R240) -/
def execStoreB (data base : RegNum) (dis : BitVec 16) (s : State) : Result :=
  store 1 (fun t a => t.memWrite1 a ((t.reg data).extractLsb' 0 8)) base dis s

/-- `store.h` (R241) -/
def execStoreH (data base : RegNum) (dis : BitVec 16) (s : State) : Result :=
  store 2 (fun t a => t.memWrite2 a ((t.reg data).extractLsb' 0 16)) base dis s

/-- `store.w` (R242) -/
def execStoreW (data base : RegNum) (dis : BitVec 16) (s : State) : Result :=
  store 4 (fun t a => t.memWrite4 a (t.reg data)) base dis s

/-- `store.f` (R243) -/
def execStoreF (data base : RegNum) (dis : BitVec 16) (s : State) : Result :=
  store 4 (fun t a => t.memWrite4 a (t.freg data)) base dis s

end Sys2Proof.Machine
end

