-- ==== Sys2Proof/Machine/RegisterTransfer.lean ====
section
/-! DEFINITION. The meanings of the register data transfer instructions (spec/40_register_transfer.md). -/

namespace Sys2Proof.Machine

/-- `mov.w` (R200) -/
def execMovW (dst src : RegNum) (s : State) : Result :=
  done (s.setGpr dst (s.gpr src))

/-- `mov.l` (R201): flags of both halves copied exactly. -/
def execMovL (dst src : RegNum) (s : State) : Result :=
  if odd dst || odd src then .next (s.raise 4)
  else done ((s.setGpr dst (s.gpr src)).setGpr (dst + 1#5) (s.gpr (src + 1#5)))

/-- `mov.f` (R202): executes without an FPU too. -/
def execMovF (dst src : RegNum) (s : State) : Result :=
  done (s.setFpr dst (s.fpr src))

/-- `mov.d` (R203) -/
def execMovD (dst src : RegNum) (s : State) : Result :=
  if odd dst || odd src then .next (s.raise 5)
  else done ((s.setFpr dst (s.fpr src)).setFpr (dst + 1#5) (s.fpr (src + 1#5)))

/-- `movf2w` (R204): the bits, not the value. -/
def execMovf2w (dst src : RegNum) (s : State) : Result :=
  done (s.setGpr dst (s.fpr src).toGpr)

/-- `movw2f` (R205) -/
def execMovw2f (dst src : RegNum) (s : State) : Result :=
  done (s.setFpr dst (s.gpr src).toFpr)

/-- `movd2l` (R206) -/
def execMovd2l (dst src : RegNum) (s : State) : Result :=
  if odd dst then .next (s.raise 4)
  else if odd src then .next (s.raise 5)
  else done ((s.setGpr dst (s.fpr src).toGpr).setGpr (dst + 1#5) (s.fpr (src + 1#5)).toGpr)

/-- `movl2d` (R207) -/
def execMovl2d (dst src : RegNum) (s : State) : Result :=
  if odd dst then .next (s.raise 5)
  else if odd src then .next (s.raise 4)
  else done ((s.setFpr dst (s.gpr src).toFpr).setFpr (dst + 1#5) (s.gpr (src + 1#5)).toFpr)

/-- `movw2s` (R208): privileged (spec/60_exceptions.md R530). -/
def execMovw2s (sdst src : RegNum) (s : State) : Result :=
  if s.userMode then .next (s.raise 2)
  else match s.writeSpr sdst (s.reg src) with
    | none => .next (s.raise 2)
    | some t => done t

/-- `movs2w` (R209): privileged; z is 1 exactly when the value read is 0 (D14). -/
def execMovs2w (dst ssrc : RegNum) (s : State) : Result :=
  if s.userMode then .next (s.raise 2)
  else match s.readSpr ssrc with
    | none => .next (s.raise 2)
    | some v => done (s.setGpr dst ⟨v, false, false, v == 0#32⟩)

/-- `movn2fg.g` (R211): the n position is ignored (D23). -/
def execMovn2fgG (dst src : RegNum) (nib : BitVec 3) (s : State) : Result :=
  let x := nibbleOf (s.reg src) nib
  done (s.setGpr dst ⟨s.reg dst, x.getLsbD 3, x.getLsbD 2, x.getLsbD 1⟩)

/-- `movfg2n.g` (R212) -/
def execMovfg2nG (dst src : RegNum) (nib : BitVec 3) (s : State) : Result :=
  done (s.setReg dst (withNibble (s.reg dst) nib (s.gpr src).nibble))

/-- `movn2fg.f` (R213) -/
def execMovn2fgF (dst src : RegNum) (nib : BitVec 3) (s : State) : Result :=
  let x := nibbleOf (s.reg src) nib
  done (s.setFpr dst ⟨s.freg dst, x.getLsbD 3, x.getLsbD 2, x.getLsbD 1⟩)

/-- `movfg2n.f` (R214) -/
def execMovfg2nF (dst src : RegNum) (nib : BitVec 3) (s : State) : Result :=
  done (s.setReg dst (withNibble (s.reg dst) nib (s.fpr src).nibble))

end Sys2Proof.Machine
end

