-- ==== Sys2Proof/Machine/Dispatch.lean ====
section
/-! DEFINITION. One arm per instruction, each a call of its meaning. -/

namespace Sys2Proof.Machine

/-- The meaning of one instruction. -/
def exec (i : Instr) (s : State) : Host.Outcome State Fault Refusal :=
  match i with
  | .j dis => Sys2Proof.Machine.execJ dis s
  | .trap => Sys2Proof.Machine.execTrap s
  | .rfe => Sys2Proof.Machine.execRfe s
  | .jr src => Sys2Proof.Machine.execJr src s
  | .jal dst dis => Sys2Proof.Machine.execJal dst dis s
  | .bc src dis => Sys2Proof.Machine.execBc src dis s
  | .bv src dis => Sys2Proof.Machine.execBv src dis s
  | .bz src dis => Sys2Proof.Machine.execBz src dis s
  | .bn src dis => Sys2Proof.Machine.execBn src dis s
  | .bnc src dis => Sys2Proof.Machine.execBnc src dis s
  | .bnv src dis => Sys2Proof.Machine.execBnv src dis s
  | .bnz src dis => Sys2Proof.Machine.execBnz src dis s
  | .bnn src dis => Sys2Proof.Machine.execBnn src dis s
  | .bfpan src dis => Sys2Proof.Machine.execBfpan src dis s
  | .bfpinf src dis => Sys2Proof.Machine.execBfpinf src dis s
  | .bfpz src dis => Sys2Proof.Machine.execBfpz src dis s
  | .bfpn src dis => Sys2Proof.Machine.execBfpn src dis s
  | .bfpnan src dis => Sys2Proof.Machine.execBfpnan src dis s
  | .bfpninf src dis => Sys2Proof.Machine.execBfpninf src dis s
  | .bfpnz src dis => Sys2Proof.Machine.execBfpnz src dis s
  | .bfpnn src dis => Sys2Proof.Machine.execBfpnn src dis s
  | .loadi dst imm => Sys2Proof.Machine.execLoadi dst imm s
  | .loadui dst imm => Sys2Proof.Machine.execLoadui dst imm s
  | .lhi dst imm => Sys2Proof.Machine.execLhi dst imm s
  | .movW dst src => Sys2Proof.Machine.execMovW dst src s
  | .movL dst src => Sys2Proof.Machine.execMovL dst src s
  | .movF dst src => Sys2Proof.Machine.execMovF dst src s
  | .movD dst src => Sys2Proof.Machine.execMovD dst src s
  | .movf2w dst src => Sys2Proof.Machine.execMovf2w dst src s
  | .movw2f dst src => Sys2Proof.Machine.execMovw2f dst src s
  | .movd2l dst src => Sys2Proof.Machine.execMovd2l dst src s
  | .movl2d dst src => Sys2Proof.Machine.execMovl2d dst src s
  | .movw2s sdst src => Sys2Proof.Machine.execMovw2s sdst src s
  | .movs2w dst ssrc => Sys2Proof.Machine.execMovs2w dst ssrc s
  | .cnvf2d dst src => Sys2Proof.Machine.execCnvf2d dst src s
  | .cnvd2f dst src => Sys2Proof.Machine.execCnvd2f dst src s
  | .cnvf2w dst src => Sys2Proof.Machine.execCnvf2w dst src s
  | .cnvw2f dst src => Sys2Proof.Machine.execCnvw2f dst src s
  | .cnvd2w dst src => Sys2Proof.Machine.execCnvd2w dst src s
  | .cnvw2d dst src => Sys2Proof.Machine.execCnvw2d dst src s
  | .cnvf2l dst src => Sys2Proof.Machine.execCnvf2l dst src s
  | .cnvl2f dst src => Sys2Proof.Machine.execCnvl2f dst src s
  | .cnvd2l dst src => Sys2Proof.Machine.execCnvd2l dst src s
  | .cnvl2d dst src => Sys2Proof.Machine.execCnvl2d dst src s
  | .invW dst src => Sys2Proof.Machine.execInvW dst src s
  | .invL dst src => Sys2Proof.Machine.execInvL dst src s
  | .jral dst src => Sys2Proof.Machine.execJral dst src s
  | .cosW dst src => Sys2Proof.Machine.execCosW dst src s
  | .cosL dst src => Sys2Proof.Machine.execCosL dst src s
  | .cosF dst src => Sys2Proof.Machine.execCosF dst src s
  | .cosD dst src => Sys2Proof.Machine.execCosD dst src s
  | .coshW dst src => Sys2Proof.Machine.execCoshW dst src s
  | .coshL dst src => Sys2Proof.Machine.execCoshL dst src s
  | .coshF dst src => Sys2Proof.Machine.execCoshF dst src s
  | .coshD dst src => Sys2Proof.Machine.execCoshD dst src s
  | .sinW dst src => Sys2Proof.Machine.execSinW dst src s
  | .sinL dst src => Sys2Proof.Machine.execSinL dst src s
  | .sinF dst src => Sys2Proof.Machine.execSinF dst src s
  | .sinD dst src => Sys2Proof.Machine.execSinD dst src s
  | .sinhW dst src => Sys2Proof.Machine.execSinhW dst src s
  | .sinhL dst src => Sys2Proof.Machine.execSinhL dst src s
  | .sinhF dst src => Sys2Proof.Machine.execSinhF dst src s
  | .sinhD dst src => Sys2Proof.Machine.execSinhD dst src s
  | .sqrt1msqW dst src => Sys2Proof.Machine.execSqrt1msqW dst src s
  | .sqrt1msqL dst src => Sys2Proof.Machine.execSqrt1msqL dst src s
  | .sqrt1msqF dst src => Sys2Proof.Machine.execSqrt1msqF dst src s
  | .sqrt1msqD dst src => Sys2Proof.Machine.execSqrt1msqD dst src s
  | .sqrt1psqW dst src => Sys2Proof.Machine.execSqrt1psqW dst src s
  | .sqrt1psqL dst src => Sys2Proof.Machine.execSqrt1psqL dst src s
  | .sqrt1psqF dst src => Sys2Proof.Machine.execSqrt1psqF dst src s
  | .sqrt1psqD dst src => Sys2Proof.Machine.execSqrt1psqD dst src s
  | .atanW dst src => Sys2Proof.Machine.execAtanW dst src s
  | .atanL dst src => Sys2Proof.Machine.execAtanL dst src s
  | .atanF dst src => Sys2Proof.Machine.execAtanF dst src s
  | .atanD dst src => Sys2Proof.Machine.execAtanD dst src s
  | .atanhW dst src => Sys2Proof.Machine.execAtanhW dst src s
  | .atanhL dst src => Sys2Proof.Machine.execAtanhL dst src s
  | .atanhF dst src => Sys2Proof.Machine.execAtanhF dst src s
  | .atanhD dst src => Sys2Proof.Machine.execAtanhD dst src s
  | .lnW dst src => Sys2Proof.Machine.execLnW dst src s
  | .lnL dst src => Sys2Proof.Machine.execLnL dst src s
  | .lnF dst src => Sys2Proof.Machine.execLnF dst src s
  | .lnD dst src => Sys2Proof.Machine.execLnD dst src s
  | .sqrtW dst src => Sys2Proof.Machine.execSqrtW dst src s
  | .sqrtL dst src => Sys2Proof.Machine.execSqrtL dst src s
  | .sqrtF dst src => Sys2Proof.Machine.execSqrtF dst src s
  | .sqrtD dst src => Sys2Proof.Machine.execSqrtD dst src s
  | .addiW dst src imm => Sys2Proof.Machine.execAddiW dst src imm s
  | .adduiW dst src imm => Sys2Proof.Machine.execAdduiW dst src imm s
  | .subiW dst src imm => Sys2Proof.Machine.execSubiW dst src imm s
  | .subuiW dst src imm => Sys2Proof.Machine.execSubuiW dst src imm s
  | .loadB dst base dis => Sys2Proof.Machine.execLoadB dst base dis s
  | .loaduB dst base dis => Sys2Proof.Machine.execLoaduB dst base dis s
  | .loadH dst base dis => Sys2Proof.Machine.execLoadH dst base dis s
  | .loaduH dst base dis => Sys2Proof.Machine.execLoaduH dst base dis s
  | .loadW dst base dis => Sys2Proof.Machine.execLoadW dst base dis s
  | .loadF dst base dis => Sys2Proof.Machine.execLoadF dst base dis s
  | .storeB data base dis => Sys2Proof.Machine.execStoreB data base dis s
  | .storeH data base dis => Sys2Proof.Machine.execStoreH data base dis s
  | .storeW data base dis => Sys2Proof.Machine.execStoreW data base dis s
  | .storeF data base dis => Sys2Proof.Machine.execStoreF data base dis s
  | .movn2fgG dst src nib => Sys2Proof.Machine.execMovn2fgG dst src nib s
  | .movfg2nG dst src nib => Sys2Proof.Machine.execMovfg2nG dst src nib s
  | .movn2fgF dst src nib => Sys2Proof.Machine.execMovn2fgF dst src nib s
  | .movfg2nF dst src nib => Sys2Proof.Machine.execMovfg2nF dst src nib s
  | .addW dst s1 s2 => Sys2Proof.Machine.execAddW dst s1 s2 s
  | .addL dst s1 s2 => Sys2Proof.Machine.execAddL dst s1 s2 s
  | .addF dst s1 s2 => Sys2Proof.Machine.execAddF dst s1 s2 s
  | .addD dst s1 s2 => Sys2Proof.Machine.execAddD dst s1 s2 s
  | .subW dst s1 s2 => Sys2Proof.Machine.execSubW dst s1 s2 s
  | .subL dst s1 s2 => Sys2Proof.Machine.execSubL dst s1 s2 s
  | .subF dst s1 s2 => Sys2Proof.Machine.execSubF dst s1 s2 s
  | .subD dst s1 s2 => Sys2Proof.Machine.execSubD dst s1 s2 s
  | .multW dst s1 s2 => Sys2Proof.Machine.execMultW dst s1 s2 s
  | .multL dst s1 s2 => Sys2Proof.Machine.execMultL dst s1 s2 s
  | .multF dst s1 s2 => Sys2Proof.Machine.execMultF dst s1 s2 s
  | .multD dst s1 s2 => Sys2Proof.Machine.execMultD dst s1 s2 s
  | .divW dst s1 s2 => Sys2Proof.Machine.execDivW dst s1 s2 s
  | .divL dst s1 s2 => Sys2Proof.Machine.execDivL dst s1 s2 s
  | .divF dst s1 s2 => Sys2Proof.Machine.execDivF dst s1 s2 s
  | .divD dst s1 s2 => Sys2Proof.Machine.execDivD dst s1 s2 s
  | .remW dst s1 s2 => Sys2Proof.Machine.execRemW dst s1 s2 s
  | .remL dst s1 s2 => Sys2Proof.Machine.execRemL dst s1 s2 s
  | .andW dst s1 s2 => Sys2Proof.Machine.execAndW dst s1 s2 s
  | .andL dst s1 s2 => Sys2Proof.Machine.execAndL dst s1 s2 s
  | .orW dst s1 s2 => Sys2Proof.Machine.execOrW dst s1 s2 s
  | .orL dst s1 s2 => Sys2Proof.Machine.execOrL dst s1 s2 s
  | .xorW dst s1 s2 => Sys2Proof.Machine.execXorW dst s1 s2 s
  | .xorL dst s1 s2 => Sys2Proof.Machine.execXorL dst s1 s2 s
  | .rlW dst s1 s2 => Sys2Proof.Machine.execRlW dst s1 s2 s
  | .rlL dst s1 s2 => Sys2Proof.Machine.execRlL dst s1 s2 s
  | .rrW dst s1 s2 => Sys2Proof.Machine.execRrW dst s1 s2 s
  | .rrL dst s1 s2 => Sys2Proof.Machine.execRrL dst s1 s2 s
  | .slW dst s1 s2 => Sys2Proof.Machine.execSlW dst s1 s2 s
  | .slL dst s1 s2 => Sys2Proof.Machine.execSlL dst s1 s2 s
  | .sraW dst s1 s2 => Sys2Proof.Machine.execSraW dst s1 s2 s
  | .sraL dst s1 s2 => Sys2Proof.Machine.execSraL dst s1 s2 s
  | .srlW dst s1 s2 => Sys2Proof.Machine.execSrlW dst s1 s2 s
  | .srlL dst s1 s2 => Sys2Proof.Machine.execSrlL dst s1 s2 s
  | .pol2recxW dst s1 s2 => Sys2Proof.Machine.execPol2recxW dst s1 s2 s
  | .pol2recxL dst s1 s2 => Sys2Proof.Machine.execPol2recxL dst s1 s2 s
  | .pol2recxF dst s1 s2 => Sys2Proof.Machine.execPol2recxF dst s1 s2 s
  | .pol2recxD dst s1 s2 => Sys2Proof.Machine.execPol2recxD dst s1 s2 s
  | .pol2recyW dst s1 s2 => Sys2Proof.Machine.execPol2recyW dst s1 s2 s
  | .pol2recyL dst s1 s2 => Sys2Proof.Machine.execPol2recyL dst s1 s2 s
  | .pol2recyF dst s1 s2 => Sys2Proof.Machine.execPol2recyF dst s1 s2 s
  | .pol2recyD dst s1 s2 => Sys2Proof.Machine.execPol2recyD dst s1 s2 s
  | .hyp2recxW dst s1 s2 => Sys2Proof.Machine.execHyp2recxW dst s1 s2 s
  | .hyp2recxL dst s1 s2 => Sys2Proof.Machine.execHyp2recxL dst s1 s2 s
  | .hyp2recxF dst s1 s2 => Sys2Proof.Machine.execHyp2recxF dst s1 s2 s
  | .hyp2recxD dst s1 s2 => Sys2Proof.Machine.execHyp2recxD dst s1 s2 s
  | .hyp2recyW dst s1 s2 => Sys2Proof.Machine.execHyp2recyW dst s1 s2 s
  | .hyp2recyL dst s1 s2 => Sys2Proof.Machine.execHyp2recyL dst s1 s2 s
  | .hyp2recyF dst s1 s2 => Sys2Proof.Machine.execHyp2recyF dst s1 s2 s
  | .hyp2recyD dst s1 s2 => Sys2Proof.Machine.execHyp2recyD dst s1 s2 s
  | .normW dst s1 s2 => Sys2Proof.Machine.execNormW dst s1 s2 s
  | .normL dst s1 s2 => Sys2Proof.Machine.execNormL dst s1 s2 s
  | .normF dst s1 s2 => Sys2Proof.Machine.execNormF dst s1 s2 s
  | .normD dst s1 s2 => Sys2Proof.Machine.execNormD dst s1 s2 s
  | .atan2W dst s1 s2 => Sys2Proof.Machine.execAtan2W dst s1 s2 s
  | .atan2L dst s1 s2 => Sys2Proof.Machine.execAtan2L dst s1 s2 s
  | .atan2F dst s1 s2 => Sys2Proof.Machine.execAtan2F dst s1 s2 s
  | .atan2D dst s1 s2 => Sys2Proof.Machine.execAtan2D dst s1 s2 s

end Sys2Proof.Machine
end

