-- ==== Sys2Proof/Machine/Step.lean ====
section
/-! DEFINITION. One step of the machine (spec/60_exceptions.md R501). -/

namespace Sys2Proof.Machine

/-- One step. -/
def step (s : State) : Host.Outcome State Fault Refusal := cycle exec s

/-- The state with an instruction's word stored where the next step fetches: at the PC after the environment's events
and detection (log 6). -/
def State.withFetchWord (s : State) (nbits w : Nat) : State :=
  s.placeWord s.begin.pc (BitVec.ofNat 32 (w % 2 ^ nbits))

end Sys2Proof.Machine
end

