-- ==== Sys2Proof/Safety.lean ====
section
/-! DEFINITION. The terms claims use: the invariant of a run, and what an instruction leaves unchanged. -/

namespace Sys2Proof.Machine

/-- What holds of every state of a run. -/
structure State.Inv (s : State) : Prop where
  /-- CFG[3] is never stored as 1 (spec/10_state.md R41) -/
  strobe : s.cfg.getLsbD 3 = false
  /-- without the link register stack CFG[1] is 0 (R42) -/
  noNesting : s.params.hasLrs = false → s.cfg.getLsbD 1 = false
  /-- without the link register stack there is no ESP (R57) -/
  noLevel : s.params.hasLrs = false → s.esp = 0#5
  /-- L0 keeps its "no handler" marker (R55) -/
  baseLink : (s.link 0#5).getLsbD 35 = true
  /-- no other link register has it (R55) -/
  otherLinks : ∀ j : BitVec 5, j ≠ 0#5 → (s.link j).getLsbD 35 = false
  /-- CR[0] and CR[29:14] are never set (spec/60_exceptions.md R511, R519) -/
  causes : s.cr &&& 0x3FFFC001#32 = 0#32
  /-- the data memory is in canonical form -/
  dataForm : s.dm.wf = true
  /-- the instruction memory is in canonical form -/
  codeForm : s.im.wf = true

/-- Every special register but PC, IR and CR, the link registers, the instruction memory, the latch, the parameters, the
index of the last fetch and what concerns the environment are the same in both states. -/
structure SameSystem (s t : State) : Prop where
  params : t.params = s.params
  inputs : t.inputs = s.inputs
  cfg : t.cfg = s.cfg
  stp : t.stp = s.stp
  mr : t.mr = s.mr
  tmr : t.tmr = s.tmr
  pwd : t.pwd = s.pwd
  pwa : t.pwa = s.pwa
  prd : t.prd = s.prd
  pra : t.pra = s.pra
  links : t.links = s.links
  esp : t.esp = s.esp
  iack : t.iack = s.iack
  im : t.im = s.im
  lastPc : t.lastPc = s.lastPc
  periphOut : t.periphOut = s.periphOut

/-- From `s` to `t` only the GPRs `gs`, the FPRs `fs` (data and flags), the data bytes `as`, PC and CR may differ (and
the counter of draws, which is no state of the machine). -/
structure Frame (s t : State) (gs fs : List RegNum) (as : List Word) : Prop where
  gprs : ∀ r, r ∉ gs → t.gpr r = s.gpr r
  fprs : ∀ r, r ∉ fs → t.fpr r = s.fpr r
  data : ∀ a, a ∉ as → t.byteAt a = s.byteAt a
  ir : t.ir = s.ir
  system : SameSystem s t

/-- The instruction went on to the next word, wrote at most the GPRs `gs` and the FPRs `fs`, and raised nothing. -/
structure WroteRegs (s t : State) (gs fs : List RegNum) : Prop where
  frame : Frame s t gs fs []
  cr : t.cr = s.cr
  pc : t.pc = s.pc + 1#30

/-- The instruction raised cause `k` and did nothing else (spec/60_exceptions.md R503). -/
structure Raised (s t : State) (k : Nat) : Prop where
  frame : Frame s t [] [] []
  cause : t.cr.getLsbD k = true
  others : ∀ j, j ≠ k → t.cr.getLsbD j = s.cr.getLsbD j
  pc : t.pc = s.pc + 1#30

end Sys2Proof.Machine
end

