-- ==== Sys2Proof/Certificates/Slice0/Obligations.lean ====
section
/-! DEFINITION. The statements for the provers. The first part names what several statements share; then one definition
for each statement, in the order of OBLIGATIONS.json. A statement about an instruction says that it answers a next state
under conditions on the state and its operands, the result, and the frame. -/

namespace Sys2Proof.Machine

/-- The instruction completes with a word result in R[d], the flags c # v of `cv`, z and nothing else
(spec/42_arithmetic.md R261). -/
def CompletesW (i : Instr) (s : State) (d : RegNum) (res : Word) (cv : BitVec 2) : Prop :=
  ∃ t, exec i s = .next t ∧ WroteRegs s t [d] [] ∧ t.reg d = res ∧ (t.gpr d).c = cv.getLsbD 1
    ∧ (t.gpr d).v = cv.getLsbD 0 ∧ ((t.gpr d).z = true ↔ res = 0#32)

/-- The instruction completes with a long result in the pair `d`, the flags on the odd register and nothing else but the
even register's flags, which are open (spec/10_state.md R25, R262). -/
def CompletesL (i : Instr) (s : State) (d : RegNum) (res : Long) (cv : BitVec 2) : Prop :=
  ∃ t, exec i s = .next t ∧ WroteRegs s t [d, d + 1#5] [] ∧ t.pair d = res ∧ (t.gpr (d + 1#5)).c = cv.getLsbD 1
    ∧ (t.gpr (d + 1#5)).v = cv.getLsbD 0 ∧ ((t.gpr (d + 1#5)).z = true ↔ res = 0#64)

/-- Binary32 classes. -/
def IsNan32 (x : Word) : Prop := x.extractLsb' 23 8 = 0xFF#8 ∧ x.extractLsb' 0 23 ≠ 0#23
def IsInf32 (x : Word) : Prop := x.extractLsb' 23 8 = 0xFF#8 ∧ x.extractLsb' 0 23 = 0#23
def IsZero32 (x : Word) : Prop := x.extractLsb' 0 31 = 0#31
/-- Binary64 classes. -/
def IsNan64 (x : Long) : Prop := x.extractLsb' 52 11 = 0x7FF#11 ∧ x.extractLsb' 0 52 ≠ 0#52
def IsInf64 (x : Long) : Prop := x.extractLsb' 52 11 = 0x7FF#11 ∧ x.extractLsb' 0 52 = 0#52
def IsZero64 (x : Long) : Prop := x.extractLsb' 0 63 = 0#63

/-- The flags of an FPR describe a binary32 value (spec/10_state.md R31). -/
def FlagsF (g : Fpr) (x : Word) : Prop :=
  (g.a = true ↔ ¬IsNan32 x) ∧ (g.i = true ↔ IsInf32 x) ∧ (g.z = true ↔ IsZero32 x)
/-- The flags of an FPR describe a binary64 value (R31). -/
def FlagsD (g : Fpr) (x : Long) : Prop :=
  (g.a = true ↔ ¬IsNan64 x) ∧ (g.i = true ↔ IsInf64 x) ∧ (g.z = true ↔ IsZero64 x)

/-- The instruction completes with a binary32 result in F[d], its flags and nothing else. -/
def CompletesF (i : Instr) (s : State) (d : RegNum) (res : Word) : Prop :=
  ∃ t, exec i s = .next t ∧ WroteRegs s t [] [d] ∧ t.freg d = res ∧ FlagsF (t.fpr d) res
/-- The instruction completes with a binary64 result in the pair `d`, its flags on the odd register and nothing else
but the even register's flags, which are open (R28). -/
def CompletesD (i : Instr) (s : State) (d : RegNum) (res : Long) : Prop :=
  ∃ t, exec i s = .next t ∧ WroteRegs s t [] [d, d + 1#5] ∧ t.fpair d = res ∧ FlagsD (t.fpr (d + 1#5)) res

/-- CR after the causes of an FPU operation are pended (spec/60_exceptions.md R517). -/
def CausesPended (s t : State) (c : Causes) : Prop :=
  ∀ k, t.cr.getLsbD k =
    (s.cr.getLsbD k || decide (k = 10) && c.invalid || decide (k = 11) && c.divZero || decide (k = 12) && c.overflow
      || decide (k = 13) && c.underflow)

/-- An FPU instruction completes in `.f` with the result and the causes of `out`. -/
def CompletesFpuF (i : Instr) (s : State) (d : RegNum) (out : FpuOut) : Prop :=
  ∃ t, exec i s = .next t ∧ Frame s t [] [d] [] ∧ t.pc = s.pc + 1#30 ∧ t.freg d = out.res.bits32 s.drawn
    ∧ FlagsF (t.fpr d) (t.freg d) ∧ CausesPended s t out.causes
/-- An FPU instruction completes in `.d`. -/
def CompletesFpuD (i : Instr) (s : State) (d : RegNum) (out : FpuOut) : Prop :=
  ∃ t, exec i s = .next t ∧ Frame s t [] [d, d + 1#5] [] ∧ t.pc = s.pc + 1#30 ∧ t.fpair d = out.res.bits64 s.drawn
    ∧ FlagsD (t.fpr (d + 1#5)) (t.fpair d) ∧ CausesPended s t out.causes

/-- The instruction raises cause `k` and does nothing else (R503). -/
def Raises (i : Instr) (s : State) (k : Nat) : Prop := ∃ t, exec i s = .next t ∧ Raised s t k

/-- The instruction stops because no data memory is there (spec/20_memory.md R93, log 5). -/
def StopsUnpopulated (i : Instr) (s : State) : Prop := exec i s = .fault .unpopulatedData

/-- The exact value ± m · 2^e. -/
def finValue (neg : Bool) (m : Nat) (e : Int) : ℚ := (if neg then -1 else 1) * (m : ℚ) * (2 : ℚ) ^ e

/-- The value of the magnitude bits `mag`, as if the exponent field had no upper limit. -/
def magValue (f : FpFmt) (mag : Nat) : ℚ :=
  if mag < 2 ^ f.fracBits then (mag : ℚ) * (2 : ℚ) ^ f.ulpMin
  else ((2 ^ f.fracBits + mag % 2 ^ f.fracBits : Nat) : ℚ)
    * (2 : ℚ) ^ (f.ulpMin + ((mag / 2 ^ f.fracBits : Nat) : Int) - 1)

/-- `mag` is the magnitude x ≥ 0 rounds to, the sign of the number being `neg` (spec/10_state.md R38). -/
def IsRounded (f : FpFmt) (rnd : Config.Rnd) (neg : Bool) (x : ℚ) (mag : Nat) : Prop :=
  let down := magValue f mag ≤ x ∧ x < magValue f (mag + 1)
  let up := x ≤ magValue f mag ∧ (mag = 0 ∨ magValue f (mag - 1) < x)
  match rnd with
  | .rz => down
  | .rp => if neg then down else up
  | .rm => if neg then up else down
  | .rn => ∀ j, |magValue f mag - x| ≤ |magValue f j - x|
      ∧ (|magValue f mag - x| = |magValue f j - x| → j = mag ∨ mag % 2 = 0)

/-- `out` is the exact result z ≠ 0 rounded once, with the overflow and underflow it calls for
(spec/42_arithmetic.md R263). -/
def CorrectlyRounded (f : FpFmt) (rnd : Config.Rnd) (z : ℚ) (out : FpuOut) : Prop :=
  ∃ mag, IsRounded f rnd (decide (z < 0)) |z| mag ∧ out.causes.invalid = false ∧ out.causes.divZero = false
    ∧ (mag < f.infMag → out.res = .num (decide (z < 0)) mag ∧ out.causes.overflow = false)
    ∧ (f.infMag ≤ mag → out.res = .num (decide (z < 0)) (overflowMag f rnd (decide (z < 0))) ∧ out.causes.overflow = true)
    ∧ (out.causes.underflow = true → magValue f mag ≠ |z| ∧ |z| < (2 : ℚ) ^ f.expMin)
    ∧ (mag < 2 ^ f.fracBits → magValue f mag ≠ |z| → out.causes.underflow = true)

/-- What the rules for special operands see of an operand. -/
structure FpClass where
  /-- a NaN -/
  nan : Prop
  /-- a NaN whose top fraction bit is 0 (log 13) -/
  signalling : Prop
  inf : Prop
  zero : Prop
  neg : Bool

/-- A number that is no infinity. -/
def FpClass.finite (x : FpClass) : Prop := ¬x.nan ∧ ¬x.inf

def class32 (x : Word) : FpClass :=
  ⟨IsNan32 x, IsNan32 x ∧ x.getLsbD 22 = false, IsInf32 x, IsZero32 x, x.msb⟩
def class64 (x : Long) : FpClass :=
  ⟨IsNan64 x, IsNan64 x ∧ x.getLsbD 51 = false, IsInf64 x, IsZero64 x, x.msb⟩

/-- A quiet NaN in F[d], with E10 pended exactly when `invalid`. -/
def GivesNanF (s : State) (d : RegNum) (i : Instr) (invalid : Prop) : Prop :=
  ∃ t v, exec i s = .next t ∧ IsNan32 (t.freg d) ∧ (t.freg d).getLsbD 22 = true ∧ (t.fpr d).a = false
    ∧ (v = true ↔ invalid) ∧ CausesPended s t { invalid := v }
/-- An infinity in F[d], with E11 pended exactly when `byZero`. -/
def GivesInfF (s : State) (d : RegNum) (i : Instr) (neg byZero : Bool) : Prop :=
  ∃ t, exec i s = .next t ∧ t.fpr d = ⟨BitVec.ofBool neg ++ 0xFF#8 ++ 0#23, true, true, false⟩
    ∧ CausesPended s t { divZero := byZero }
/-- A zero in F[d], without a cause. -/
def GivesZeroF (s : State) (d : RegNum) (i : Instr) (neg : Bool) : Prop :=
  ∃ t, exec i s = .next t ∧ t.fpr d = ⟨BitVec.ofBool neg ++ 0#31, true, false, true⟩ ∧ CausesPended s t {}

/-- A quiet NaN in the pair `d`, with E10 pended exactly when `invalid`. -/
def GivesNanD (s : State) (d : RegNum) (i : Instr) (invalid : Prop) : Prop :=
  ∃ t v, exec i s = .next t ∧ IsNan64 (t.fpair d) ∧ (t.fpair d).getLsbD 51 = true ∧ (t.fpr (d + 1#5)).a = false
    ∧ (v = true ↔ invalid) ∧ CausesPended s t { invalid := v }
/-- An infinity in the pair `d`, with E11 pended exactly when `byZero`. -/
def GivesInfD (s : State) (d : RegNum) (i : Instr) (neg byZero : Bool) : Prop :=
  ∃ t, exec i s = .next t ∧ t.fpair d = BitVec.ofBool neg ++ 0x7FF#11 ++ 0#52
    ∧ FlagsD (t.fpr (d + 1#5)) (t.fpair d) ∧ CausesPended s t { divZero := byZero }
/-- A zero in the pair `d`, without a cause. -/
def GivesZeroD (s : State) (d : RegNum) (i : Instr) (neg : Bool) : Prop :=
  ∃ t, exec i s = .next t ∧ t.fpair d = BitVec.ofBool neg ++ 0#63
    ∧ FlagsD (t.fpr (d + 1#5)) (t.fpair d) ∧ CausesPended s t {}

/-- The rules for special operands of one format (spec/42_arithmetic.md R263, IEEE 754 as log 29 has it): the four
instructions on operands of the classes `x` and `y`. `zeroSum` is the sign of an exact zero sum of opposite signs; `same`
and `opposite` say that the operands are one number, or one number and its negation. -/
def SpecialOperands (add sub mult div : Instr) (x y : FpClass) (same opposite : Prop) (zeroSum : Bool)
    (givesNan : Instr → Prop → Prop) (givesInf : Instr → Bool → Bool → Prop) (givesZero : Instr → Bool → Prop) : Prop :=
  let sign := x.neg ^^ y.neg
  (x.nan ∨ y.nan → ∀ i, i = add ∨ i = sub ∨ i = mult ∨ i = div → givesNan i (x.signalling ∨ y.signalling))
  ∧ (x.inf → y.inf →
    givesInf mult sign false ∧ givesNan div True
    ∧ (sign = false → givesInf add x.neg false ∧ givesNan sub True)
    ∧ (sign = true → givesNan add True ∧ givesInf sub x.neg false))
  ∧ (x.inf → y.finite →
    givesInf add x.neg false ∧ givesInf sub x.neg false ∧ givesInf div sign false
    ∧ (y.zero → givesNan mult True) ∧ (¬y.zero → givesInf mult sign false))
  ∧ (x.finite → y.inf →
    givesInf add y.neg false ∧ givesInf sub (!y.neg) false ∧ givesZero div sign
    ∧ (x.zero → givesNan mult True) ∧ (¬x.zero → givesInf mult sign false))
  ∧ (x.finite → y.finite →
    (x.zero ∨ y.zero → givesZero mult sign)
    ∧ (x.zero → y.zero → givesNan div True) ∧ (x.zero → ¬y.zero → givesZero div sign)
    ∧ (¬x.zero → y.zero → givesInf div sign true)
    ∧ (opposite → givesZero add zeroSum) ∧ (same → givesZero sub zeroSum)
    ∧ (x.zero → same → givesZero add x.neg) ∧ (x.zero → opposite → givesZero sub x.neg))

/-- The sixteen cordic instructions on words. -/
def cordic1Word : Config.Cordic1Fn → RegNum → RegNum → Instr
  | .cos => .cosW | .cosh => .coshW | .sin => .sinW | .sinh => .sinhW | .sqrt1msq => .sqrt1msqW
  | .sqrt1psq => .sqrt1psqW | .atan => .atanW | .atanh => .atanhW | .ln => .lnW | .sqrt => .sqrtW
def cordic2Word : Config.Cordic2Fn → RegNum → RegNum → RegNum → Instr
  | .pol2recx => .pol2recxW | .pol2recy => .pol2recyW | .hyp2recx => .hyp2recxW | .hyp2recy => .hyp2recyW
  | .norm => .normW | .atan2 => .atan2W
/-- The sixteen cordic instructions on longs. -/
def cordic1Long : Config.Cordic1Fn → RegNum → RegNum → Instr
  | .cos => .cosL | .cosh => .coshL | .sin => .sinL | .sinh => .sinhL | .sqrt1msq => .sqrt1msqL
  | .sqrt1psq => .sqrt1psqL | .atan => .atanL | .atanh => .atanhL | .ln => .lnL | .sqrt => .sqrtL
def cordic2Long : Config.Cordic2Fn → RegNum → RegNum → RegNum → Instr
  | .pol2recx => .pol2recxL | .pol2recy => .pol2recyL | .hyp2recx => .hyp2recxL | .hyp2recy => .hyp2recyL
  | .norm => .normL | .atan2 => .atan2L
/-- The sixteen cordic instructions on floats. -/
def cordic1Float : Config.Cordic1Fn → RegNum → RegNum → Instr
  | .cos => .cosF | .cosh => .coshF | .sin => .sinF | .sinh => .sinhF | .sqrt1msq => .sqrt1msqF
  | .sqrt1psq => .sqrt1psqF | .atan => .atanF | .atanh => .atanhF | .ln => .lnF | .sqrt => .sqrtF
def cordic2Float : Config.Cordic2Fn → RegNum → RegNum → RegNum → Instr
  | .pol2recx => .pol2recxF | .pol2recy => .pol2recyF | .hyp2recx => .hyp2recxF | .hyp2recy => .hyp2recyF
  | .norm => .normF | .atan2 => .atan2F
/-- The sixteen cordic instructions on doubles. -/
def cordic1Double : Config.Cordic1Fn → RegNum → RegNum → Instr
  | .cos => .cosD | .cosh => .coshD | .sin => .sinD | .sinh => .sinhD | .sqrt1msq => .sqrt1msqD
  | .sqrt1psq => .sqrt1psqD | .atan => .atanD | .atanh => .atanhD | .ln => .lnD | .sqrt => .sqrtD
def cordic2Double : Config.Cordic2Fn → RegNum → RegNum → RegNum → Instr
  | .pol2recx => .pol2recxD | .pol2recy => .pol2recyD | .hyp2recx => .hyp2recxD | .hyp2recy => .hyp2recyD
  | .norm => .normD | .atan2 => .atan2D

/-- The state after a taken or untaken branch: only PC differs. -/
def branched (s : State) (taken : Bool) (dis : BitVec 17) : State :=
  { s with pc := if taken = true then s.pc + 1#30 + dis.signExtend 30 else s.pc + 1#30 }

/-- A result that both a signed and an unsigned reading give, chosen by `DIV_SIGNED`. -/
def divides {n : Nat} (signed : Bool) (x y q : BitVec n) : Prop :=
  if signed = true then q = BitVec.ofInt n (x.toInt.tdiv y.toInt) else q.toNat = x.toNat / y.toNat
/-- The remainder of that division. -/
def leaves {n : Nat} (signed : Bool) (x y r : BitVec n) : Prop :=
  if signed = true then r.toInt = x.toInt.tmod y.toInt else r.toNat = x.toNat % y.toNat

/-- Every register and flag has its reset value (spec/10_state.md R70). -/
def AtReset (t : State) : Prop :=
  (∀ r, t.gpr r = ⟨0#32, false, false, false⟩) ∧ (∀ r, t.fpr r = ⟨0#32, false, false, false⟩) ∧ t.pc = 0#30
  ∧ t.cfg = 0#6 ∧ t.stp = 0#22 ∧ t.mr = 0#33 ∧ t.ir = 0#32 ∧ t.tmr = 0#32 ∧ t.pwd = 0#32 ∧ t.pwa = 0#32
  ∧ t.prd = 0#32 ∧ t.pra = 0#32 ∧ t.cr = 0#32 ∧ t.link 0#5 = 0x800000000#36
  ∧ (∀ j : BitVec 5, j ≠ 0#5 → t.link j = 0#36) ∧ t.esp = 0#5 ∧ t.iack = false

end Sys2Proof.Machine

open Sys2Proof Sys2Proof.Machine

/-! ### Register data transfer (spec/40_register_transfer.md) -/

/-- mov.w, mov.f, movf2w, movw2f copy the bits and the three flags, with or without an FPU (R200, R202, R204, R205). -/
def Obligations.MovesCopyDataAndFlags : Prop :=
  ∀ (s : State) (d a : RegNum),
    (∃ t, exec (.movW d a) s = .next t ∧ WroteRegs s t [d] [] ∧ t.gpr d = s.gpr a)
    ∧ (∃ t, exec (.movF d a) s = .next t ∧ WroteRegs s t [] [d] ∧ t.fpr d = s.fpr a)
    ∧ (∃ t, exec (.movf2w d a) s = .next t ∧ WroteRegs s t [d] []
        ∧ t.gpr d = ⟨s.freg a, (s.fpr a).a, (s.fpr a).i, (s.fpr a).z⟩)
    ∧ (∃ t, exec (.movw2f d a) s = .next t ∧ WroteRegs s t [] [d]
        ∧ t.fpr d = ⟨s.reg a, (s.gpr a).c, (s.gpr a).v, (s.gpr a).z⟩)

/-- mov.l, mov.d, movd2l, movl2d copy both halves with their flags (R201, R203, R206, R207). -/
def Obligations.PairMovesCopyBothHalves : Prop :=
  ∀ (s : State) (d a : RegNum), d.getLsbD 0 = false → a.getLsbD 0 = false →
    (∃ t, exec (.movL d a) s = .next t ∧ WroteRegs s t [d, d + 1#5] [] ∧ t.gpr d = s.gpr a
        ∧ t.gpr (d + 1#5) = s.gpr (a + 1#5))
    ∧ (∃ t, exec (.movD d a) s = .next t ∧ WroteRegs s t [] [d, d + 1#5] ∧ t.fpr d = s.fpr a
        ∧ t.fpr (d + 1#5) = s.fpr (a + 1#5))
    ∧ (∃ t, exec (.movd2l d a) s = .next t ∧ WroteRegs s t [d, d + 1#5] []
        ∧ t.gpr d = ⟨s.freg a, (s.fpr a).a, (s.fpr a).i, (s.fpr a).z⟩
        ∧ t.gpr (d + 1#5) = ⟨s.freg (a + 1#5), (s.fpr (a + 1#5)).a, (s.fpr (a + 1#5)).i, (s.fpr (a + 1#5)).z⟩)
    ∧ (∃ t, exec (.movl2d d a) s = .next t ∧ WroteRegs s t [] [d, d + 1#5]
        ∧ t.fpr d = ⟨s.reg a, (s.gpr a).c, (s.gpr a).v, (s.gpr a).z⟩
        ∧ t.fpr (d + 1#5) = ⟨s.reg (a + 1#5), (s.gpr (a + 1#5)).c, (s.gpr (a + 1#5)).v, (s.gpr (a + 1#5)).z⟩)

/-- Odd registers in pair moves raise E4 or E5, the destination's first (R201, R203, R206, R207). -/
def Obligations.PairMovesOddRaise : Prop :=
  ∀ (s : State) (d a : RegNum),
    (d.getLsbD 0 = true ∨ a.getLsbD 0 = true → Raises (.movL d a) s 4 ∧ Raises (.movD d a) s 5)
    ∧ (d.getLsbD 0 = true → Raises (.movd2l d a) s 4 ∧ Raises (.movl2d d a) s 5)
    ∧ (d.getLsbD 0 = false → a.getLsbD 0 = true → Raises (.movd2l d a) s 5 ∧ Raises (.movl2d d a) s 4)

/-- A privileged instruction in user mode raises E2 whatever its operands (spec/60_exceptions.md R530). -/
def Obligations.PrivilegedInUserModeRaises : Prop :=
  ∀ (s : State) (k r : RegNum), s.cfg.getLsbD 0 = true →
    Raises (.movw2s k r) s 2 ∧ Raises (.movs2w r k) s 2 ∧ Raises .rfe s 2

/-- movs2w in supervisor mode: the value of the table of spec/10_state.md R60, with c = v = 0 and z for zero (R209). -/
def Obligations.ReadSpecialRegister : Prop :=
  ∀ (s : State) (d k : RegNum), s.cfg.getLsbD 0 = false →
    (∀ v : Word,
      (k = 0#5 ∧ v.toNat = (s.cfg.getLsbD 0).toNat + 2 * (s.params.hasLrs && s.cfg.getLsbD 1).toNat
          + 4 * (s.cfg.getLsbD 2).toNat + 16 * (s.cfg.getLsbD 4).toNat + 32 * (s.cfg.getLsbD 5).toNat
        ∨ k = 1#5 ∧ v.toNat = s.stp.toNat ∨ k = 2#5 ∧ v.toNat = s.mr.toNat % 2 ^ 32 ∨ k = 3#5 ∧ v = s.ir
        ∨ k = 4#5 ∧ v = s.tmr ∨ k = 5#5 ∧ v = s.pwd ∨ k = 6#5 ∧ v = s.pwa ∨ k = 7#5 ∧ v = s.prd
        ∨ k = 8#5 ∧ v = s.pra) →
      ∃ t, exec (.movs2w d k) s = .next t ∧ WroteRegs s t [d] [] ∧ t.gpr d = ⟨v, false, false, decide (v = 0#32)⟩)
    ∧ (9 ≤ k.toNat → Raises (.movs2w d k) s 2)

/-- movw2s in supervisor mode: the effect of the table of R61, the whole next state (R208, R542, R550). -/
def Obligations.WriteSpecialRegister : Prop :=
  ∀ (s : State) (k a : RegNum), s.cfg.getLsbD 0 = false →
    (∃ t, exec (.movw2s 0#5 a) s = .next t
      ∧ t = { s with cfg := t.cfg, tmr := t.tmr, pc := s.pc + 1#30 }
      ∧ t.cfg.getLsbD 0 = (s.reg a).getLsbD 0 ∧ t.cfg.getLsbD 1 = (s.params.hasLrs && (s.reg a).getLsbD 1)
      ∧ t.cfg.getLsbD 2 = (s.reg a).getLsbD 2 ∧ t.cfg.getLsbD 3 = false
      ∧ t.cfg.getLsbD 4 = (s.reg a).getLsbD 4 ∧ t.cfg.getLsbD 5 = (s.reg a).getLsbD 5
      ∧ t.tmr.toNat = if (s.reg a).getLsbD 3 = true ∧ (s.reg a).getLsbD 2 = true ∧ s.tmr.toNat = 0
          then 1024 * s.stp.toNat + 1023 else s.tmr.toNat)
    ∧ exec (.movw2s 1#5 a) s = .next { s with stp := BitVec.ofNat 22 (s.reg a).toNat, pc := s.pc + 1#30 }
    ∧ exec (.movw2s 2#5 a) s
        = .next { s with mr := BitVec.ofBool (s.mr.getLsbD 32) ++ s.reg a, pc := s.pc + 1#30 }
    ∧ exec (.movw2s 5#5 a) s
        = .next { s with pwd := s.reg a, periphOut := s.periphOut ++ [(s.pwa, s.reg a)], pc := s.pc + 1#30 }
    ∧ exec (.movw2s 6#5 a) s = .next { s with pwa := s.reg a, pc := s.pc + 1#30 }
    ∧ (k = 3#5 ∨ k = 4#5 ∨ k = 7#5 ∨ k = 8#5 → exec (.movw2s k a) s = .next { s with pc := s.pc + 1#30 })
    ∧ (9 ≤ k.toNat → Raises (.movw2s k a) s 2)

/-- The flag-nibble moves, bit by bit (R210 to R214). -/
def Obligations.FlagNibbleMoves : Prop :=
  ∀ (s : State) (d a : RegNum) (nib : BitVec 3),
    (∃ t, exec (.movn2fgG d a nib) s = .next t ∧ WroteRegs s t [d] []
      ∧ t.gpr d = ⟨s.reg d, (s.reg a).getLsbD (4 * nib.toNat + 3), (s.reg a).getLsbD (4 * nib.toNat + 2),
          (s.reg a).getLsbD (4 * nib.toNat + 1)⟩)
    ∧ (∃ t, exec (.movn2fgF d a nib) s = .next t ∧ WroteRegs s t [] [d]
      ∧ t.fpr d = ⟨s.freg d, (s.reg a).getLsbD (4 * nib.toNat + 3), (s.reg a).getLsbD (4 * nib.toNat + 2),
          (s.reg a).getLsbD (4 * nib.toNat + 1)⟩)
    ∧ (∃ t, exec (.movfg2nG d a nib) s = .next t ∧ WroteRegs s t [d] []
      ∧ t.gpr d = { s.gpr d with val := t.reg d }
      ∧ (t.reg d).getLsbD (4 * nib.toNat + 3) = (s.gpr a).c ∧ (t.reg d).getLsbD (4 * nib.toNat + 2) = (s.gpr a).v
      ∧ (t.reg d).getLsbD (4 * nib.toNat + 1) = (s.gpr a).z
      ∧ (t.reg d).getLsbD (4 * nib.toNat) = (s.reg a).getLsbD 31
      ∧ ∀ k, k / 4 ≠ nib.toNat → (t.reg d).getLsbD k = (s.reg d).getLsbD k)
    ∧ (∃ t, exec (.movfg2nF d a nib) s = .next t ∧ WroteRegs s t [d] []
      ∧ t.gpr d = { s.gpr d with val := t.reg d }
      ∧ (t.reg d).getLsbD (4 * nib.toNat + 3) = (s.fpr a).a ∧ (t.reg d).getLsbD (4 * nib.toNat + 2) = (s.fpr a).i
      ∧ (t.reg d).getLsbD (4 * nib.toNat + 1) = (s.fpr a).z
      ∧ (t.reg d).getLsbD (4 * nib.toNat) = (s.freg a).getLsbD 31
      ∧ ∀ k, k / 4 ≠ nib.toNat → (t.reg d).getLsbD k = (s.reg d).getLsbD k)

/-! ### Memory data transfer (spec/41_memory_transfer.md) -/

/-- loadi, loadui, lhi write the data and leave the flags (R230 to R232). -/
def Obligations.ImmediateLoads : Prop :=
  ∀ (s : State) (d : RegNum) (imm : BitVec 16),
    (∃ t, exec (.loadi d imm) s = .next t ∧ WroteRegs s t [d] [] ∧ t.gpr d = { s.gpr d with val := t.reg d }
      ∧ (t.reg d).toInt = imm.toInt)
    ∧ (∃ t, exec (.loadui d imm) s = .next t ∧ WroteRegs s t [d] [] ∧ t.gpr d = { s.gpr d with val := t.reg d }
      ∧ (t.reg d).toNat = imm.toNat)
    ∧ (∃ t, exec (.lhi d imm) s = .next t ∧ WroteRegs s t [d] [] ∧ t.gpr d = { s.gpr d with val := t.reg d }
      ∧ (t.reg d).toNat = imm.toNat * 2 ^ 16 + (s.reg d).toNat % 2 ^ 16)

/-- Aligned loads read their bytes big-endian at base plus signed displacement modulo 2^32, extend them, write the data
and leave the flags (R234 to R239, spec/20_memory.md R91). -/
def Obligations.LoadsReadMemory : Prop :=
  ∀ (s : State) (d b : RegNum) (dis : BitVec 16) (ea : Word), ea = s.ea b dis →
    s.ea b dis = BitVec.ofInt 32 ((s.reg b).toInt + dis.toInt)
    ∧ (populated s.params ea.toNat 1 = true →
      (∃ t, exec (.loadB d b dis) s = .next t ∧ WroteRegs s t [d] [] ∧ t.gpr d = { s.gpr d with val := t.reg d }
        ∧ (t.reg d).toInt = (s.byteAt ea).toInt)
      ∧ (∃ t, exec (.loaduB d b dis) s = .next t ∧ WroteRegs s t [d] [] ∧ t.gpr d = { s.gpr d with val := t.reg d }
        ∧ (t.reg d).toNat = (s.byteAt ea).toNat))
    ∧ (ea.toNat % 2 = 0 → populated s.params ea.toNat 2 = true →
      (∃ t, exec (.loadH d b dis) s = .next t ∧ WroteRegs s t [d] [] ∧ t.gpr d = { s.gpr d with val := t.reg d }
        ∧ (t.reg d).toInt = (s.byteAt ea ++ s.byteAt (ea + 1#32)).toInt)
      ∧ (∃ t, exec (.loaduH d b dis) s = .next t ∧ WroteRegs s t [d] [] ∧ t.gpr d = { s.gpr d with val := t.reg d }
        ∧ (t.reg d).toNat = (s.byteAt ea).toNat * 2 ^ 8 + (s.byteAt (ea + 1#32)).toNat))
    ∧ (ea.toNat % 4 = 0 → populated s.params ea.toNat 4 = true →
      (∃ t, exec (.loadW d b dis) s = .next t ∧ WroteRegs s t [d] [] ∧ t.gpr d = { s.gpr d with val := t.reg d }
        ∧ (t.reg d).toNat = (s.byteAt ea).toNat * 2 ^ 24 + (s.byteAt (ea + 1#32)).toNat * 2 ^ 16
            + (s.byteAt (ea + 2#32)).toNat * 2 ^ 8 + (s.byteAt (ea + 3#32)).toNat)
      ∧ (∃ t, exec (.loadF d b dis) s = .next t ∧ WroteRegs s t [] [d] ∧ t.fpr d = { s.fpr d with val := t.freg d }
        ∧ (t.freg d).toNat = (s.byteAt ea).toNat * 2 ^ 24 + (s.byteAt (ea + 1#32)).toNat * 2 ^ 16
            + (s.byteAt (ea + 2#32)).toNat * 2 ^ 8 + (s.byteAt (ea + 3#32)).toNat))

/-- Aligned stores write their bytes big-endian at base plus signed displacement modulo 2^32 and nothing else (R240 to
R243, spec/20_memory.md R85, R91). -/
def Obligations.StoresWriteMemory : Prop :=
  ∀ (s : State) (x b : RegNum) (dis : BitVec 16) (ea : Word), ea = s.ea b dis → s.dm.wf = true →
    s.ea b dis = BitVec.ofInt 32 ((s.reg b).toInt + dis.toInt)
    ∧ (populated s.params ea.toNat 1 = true →
      ∃ t, exec (.storeB x b dis) s = .next t ∧ Frame s t [] [] [ea] ∧ t.cr = s.cr ∧ t.pc = s.pc + 1#30
        ∧ t.byteAt ea = (s.reg x).extractLsb' 0 8)
    ∧ (ea.toNat % 2 = 0 → populated s.params ea.toNat 2 = true →
      ∃ t, exec (.storeH x b dis) s = .next t ∧ Frame s t [] [] [ea, ea + 1#32] ∧ t.cr = s.cr ∧ t.pc = s.pc + 1#30
        ∧ t.byteAt ea = (s.reg x).extractLsb' 8 8 ∧ t.byteAt (ea + 1#32) = (s.reg x).extractLsb' 0 8)
    ∧ (ea.toNat % 4 = 0 → populated s.params ea.toNat 4 = true →
      (∃ t, exec (.storeW x b dis) s = .next t ∧ Frame s t [] [] [ea, ea + 1#32, ea + 2#32, ea + 3#32]
        ∧ t.cr = s.cr ∧ t.pc = s.pc + 1#30
        ∧ t.byteAt ea = (s.reg x).extractLsb' 24 8 ∧ t.byteAt (ea + 1#32) = (s.reg x).extractLsb' 16 8
        ∧ t.byteAt (ea + 2#32) = (s.reg x).extractLsb' 8 8 ∧ t.byteAt (ea + 3#32) = (s.reg x).extractLsb' 0 8)
      ∧ (∃ t, exec (.storeF x b dis) s = .next t ∧ Frame s t [] [] [ea, ea + 1#32, ea + 2#32, ea + 3#32]
        ∧ t.cr = s.cr ∧ t.pc = s.pc + 1#30
        ∧ t.byteAt ea = (s.freg x).extractLsb' 24 8 ∧ t.byteAt (ea + 1#32) = (s.freg x).extractLsb' 16 8
        ∧ t.byteAt (ea + 2#32) = (s.freg x).extractLsb' 8 8 ∧ t.byteAt (ea + 3#32) = (s.freg x).extractLsb' 0 8))

/-- Alignment: bytes anywhere, halves at even addresses, words and floats at multiples of 4. An access that breaks its
condition raises E3 and does nothing else; one that meets it raises nothing (spec/20_memory.md R87,
spec/60_exceptions.md R503). THE MODEL'S CHOICE (log 30): alignment is checked before `DM_POPULATED`. -/
def Obligations.MisalignedAccessRaises : Prop :=
  ∀ (s : State) (r b : RegNum) (dis : BitVec 16) (addr : Int), addr = (s.reg b).toInt + dis.toInt →
    (addr % 2 ≠ 0 → Raises (.loadH r b dis) s 3 ∧ Raises (.loaduH r b dis) s 3 ∧ Raises (.storeH r b dis) s 3)
    ∧ (addr % 4 ≠ 0 → Raises (.loadW r b dis) s 3 ∧ Raises (.loadF r b dis) s 3 ∧ Raises (.storeW r b dis) s 3
      ∧ Raises (.storeF r b dis) s 3)
    ∧ ∀ i t, exec i s = .next t →
      (i = .loadB r b dis ∨ i = .loaduB r b dis ∨ i = .storeB r b dis
        ∨ addr % 2 = 0 ∧ (i = .loadH r b dis ∨ i = .loaduH r b dis ∨ i = .storeH r b dis)
        ∨ addr % 4 = 0 ∧ (i = .loadW r b dis ∨ i = .loadF r b dis ∨ i = .storeW r b dis ∨ i = .storeF r b dis)) →
      t.cr = s.cr

/-- THE MODEL'S CHOICE (log 5): an aligned access outside `DM_POPULATED` stops. -/
def Obligations.UnpopulatedAccessStops : Prop :=
  ∀ (s : State) (r b : RegNum) (dis : BitVec 16) (ea : Word), ea = s.ea b dis →
    (populated s.params ea.toNat 1 = false →
      StopsUnpopulated (.loadB r b dis) s ∧ StopsUnpopulated (.loaduB r b dis) s ∧ StopsUnpopulated (.storeB r b dis) s)
    ∧ (ea.toNat % 2 = 0 → populated s.params ea.toNat 2 = false →
      StopsUnpopulated (.loadH r b dis) s ∧ StopsUnpopulated (.loaduH r b dis) s ∧ StopsUnpopulated (.storeH r b dis) s)
    ∧ (ea.toNat % 4 = 0 → populated s.params ea.toNat 4 = false →
      StopsUnpopulated (.loadW r b dis) s ∧ StopsUnpopulated (.loadF r b dis) s ∧ StopsUnpopulated (.storeW r b dis) s
        ∧ StopsUnpopulated (.storeF r b dis) s)

/-- A word stored at A and read back as bytes gives bits 31..24 at A, 23..16 at A+1, 15..8 at A+2, 7..0 at A+3; read
back as halves, bits 31..16 at A and 15..0 at A+2 (R86): a store.w followed by any load of those addresses. -/
def Obligations.StoredWordReadsBack : Prop :=
  ∀ (s t u : State) (x b d b' : RegNum) (dis dis' : BitVec 16) (ea : Word), ea = s.ea b dis → s.dm.wf = true →
    ea.toNat % 4 = 0 → exec (.storeW x b dis) s = .next t →
    (∀ k, k < 4 → t.ea b' dis' = ea + BitVec.ofNat 32 k → exec (.loaduB d b' dis') t = .next u →
      (u.reg d).toNat = (s.reg x).toNat / 2 ^ (24 - 8 * k) % 2 ^ 8)
    ∧ (∀ k, k < 2 → t.ea b' dis' = ea + BitVec.ofNat 32 (2 * k) → exec (.loaduH d b' dis') t = .next u →
      (u.reg d).toNat = (s.reg x).toNat / 2 ^ (16 - 16 * k) % 2 ^ 16)
    ∧ (t.ea b' dis' = ea → exec (.loadW d b' dis') t = .next u → u.reg d = s.reg x)

/-! ### Integer arithmetic and logic (spec/42_arithmetic.md, spec/45_logic.md) -/

/-- add.w, addi.w, addui.w: the sum, carry out, signed overflow, zero (R264, R265, R268, R261). -/
def Obligations.AddWord : Prop :=
  ∀ (s : State) (d a b : RegNum) (imm : BitVec 16) (i : Instr) (y : Word),
    (i = .addW d a b ∧ y = s.reg b ∨ i = .addiW d a imm ∧ y.toInt = imm.toInt
      ∨ i = .adduiW d a imm ∧ y.toNat = imm.toNat) →
    ∃ t, exec i s = .next t ∧ WroteRegs s t [d] [] ∧ t.reg d = s.reg a + y
      ∧ ((t.gpr d).c = true ↔ 2 ^ 32 ≤ (s.reg a).toNat + y.toNat)
      ∧ ((t.gpr d).v = true ↔ ¬(-2 ^ 31 ≤ (s.reg a).toInt + y.toInt ∧ (s.reg a).toInt + y.toInt < 2 ^ 31))
      ∧ ((t.gpr d).z = true ↔ s.reg a + y = 0#32)

/-- sub.w, subi.w, subui.w: the difference, carry in the polarity of `SUB_CARRY_IS_BORROW`, signed overflow, zero (R266,
R267, R272, R261). -/
def Obligations.SubWord : Prop :=
  ∀ (s : State) (d a b : RegNum) (imm : BitVec 16) (i : Instr) (y : Word),
    (i = .subW d a b ∧ y = s.reg b ∨ i = .subiW d a imm ∧ y.toInt = imm.toInt
      ∨ i = .subuiW d a imm ∧ y.toNat = imm.toNat) →
    ∃ t, exec i s = .next t ∧ WroteRegs s t [d] [] ∧ t.reg d = s.reg a - y
      ∧ ((t.gpr d).c = Config.subCarryIsBorrow ↔ (s.reg a).toNat < y.toNat)
      ∧ ((t.gpr d).v = true ↔ ¬(-2 ^ 31 ≤ (s.reg a).toInt - y.toInt ∧ (s.reg a).toInt - y.toInt < 2 ^ 31))
      ∧ ((t.gpr d).z = true ↔ s.reg a = y)

/-- add.l and sub.l on register pairs, with the flags of the 64-bit operation on the odd register (R269, R273, R262). -/
def Obligations.AddSubLong : Prop :=
  ∀ (s : State) (d a b : RegNum) (x y : Long), x = s.pair a → y = s.pair b →
    d.getLsbD 0 = false → a.getLsbD 0 = false → b.getLsbD 0 = false →
    (∃ t, exec (.addL d a b) s = .next t ∧ WroteRegs s t [d, d + 1#5] [] ∧ t.pair d = x + y
      ∧ ((t.gpr (d + 1#5)).c = true ↔ 2 ^ 64 ≤ x.toNat + y.toNat)
      ∧ ((t.gpr (d + 1#5)).v = true ↔ ¬(-2 ^ 63 ≤ x.toInt + y.toInt ∧ x.toInt + y.toInt < 2 ^ 63))
      ∧ ((t.gpr (d + 1#5)).z = true ↔ x + y = 0#64))
    ∧ (∃ t, exec (.subL d a b) s = .next t ∧ WroteRegs s t [d, d + 1#5] [] ∧ t.pair d = x - y
      ∧ ((t.gpr (d + 1#5)).c = Config.subCarryIsBorrow ↔ x.toNat < y.toNat)
      ∧ ((t.gpr (d + 1#5)).v = true ↔ ¬(-2 ^ 63 ≤ x.toInt - y.toInt ∧ x.toInt - y.toInt < 2 ^ 63))
      ∧ ((t.gpr (d + 1#5)).z = true ↔ x = y))

/-- mult.w and mult.l in its pair-by-pair reading: the low half of the product (R276, R277). In the word-by-word reading
(log 19, the model's choice for the parity check) mult.l gives the whole product of two words. -/
def Obligations.Multiply : Prop :=
  ∀ (s : State) (d a b : RegNum),
    (∃ res : Word, res.toNat = (s.reg a).toNat * (s.reg b).toNat % 2 ^ 32
      ∧ CompletesW (.multW d a b) s d res (Config.aluCV .mult 32 (s.reg a) (s.reg b)))
    ∧ (s.params.multLMode = .pairByPair → d.getLsbD 0 = false → a.getLsbD 0 = false → b.getLsbD 0 = false →
      ∃ res : Long, res.toNat = (s.pair a).toNat * (s.pair b).toNat % 2 ^ 64
        ∧ CompletesL (.multL d a b) s d res (Config.aluCV .mult 64 (s.pair a) (s.pair b)))
    ∧ (s.params.multLMode = .wordByWord → d.getLsbD 0 = false →
      ∃ (res : Long) (cv : BitVec 2),
        (if Config.multLWordSigned = true then res.toInt = (s.reg a).toInt * (s.reg b).toInt
          else res.toNat = (s.reg a).toNat * (s.reg b).toNat)
        ∧ CompletesL (.multL d a b) s d res cv)

/-- div.w and rem.w with a divisor that is not zero (R280, R284). -/
def Obligations.DivideWord : Prop :=
  ∀ (s : State) (d a b : RegNum), s.reg b ≠ 0#32 →
    (∃ q : Word, divides s.params.divSigned (s.reg a) (s.reg b) q
      ∧ CompletesW (.divW d a b) s d q (Config.aluCV .div 32 (s.reg a) (s.reg b)))
    ∧ (∃ r : Word, leaves s.params.divSigned (s.reg a) (s.reg b) r
      ∧ CompletesW (.remW d a b) s d r (Config.aluCV .rem 32 (s.reg a) (s.reg b)))

/-- div.l and rem.l with a divisor that is not zero (R281, R285). -/
def Obligations.DivideLong : Prop :=
  ∀ (s : State) (d a b : RegNum), s.pair b ≠ 0#64 →
    d.getLsbD 0 = false → a.getLsbD 0 = false → b.getLsbD 0 = false →
    (∃ q : Long, divides s.params.divSigned (s.pair a) (s.pair b) q
      ∧ CompletesL (.divL d a b) s d q (Config.aluCV .div 64 (s.pair a) (s.pair b)))
    ∧ (∃ r : Long, leaves s.params.divSigned (s.pair a) (s.pair b) r
      ∧ CompletesL (.remL d a b) s d r (Config.aluCV .rem 64 (s.pair a) (s.pair b)))

/-- A zero divisor raises E6 for words and, after the parity check, E7 for longs (spec/60_exceptions.md R516, R509). -/
def Obligations.DivideByZeroRaises : Prop :=
  ∀ (s : State) (d a b : RegNum),
    (s.reg b = 0#32 → Raises (.divW d a b) s 6 ∧ Raises (.remW d a b) s 6)
    ∧ (s.pair b = 0#64 → d.getLsbD 0 = false → a.getLsbD 0 = false → b.getLsbD 0 = false →
      Raises (.divL d a b) s 7 ∧ Raises (.remL d a b) s 7)

/-- The word rotates and shifts, bit by bit, the amount being the low five bits of the register (R286, R288, R290, R292,
R294, spec/45_logic.md R399). -/
def Obligations.ShiftWord : Prop :=
  ∀ (s : State) (d a b : RegNum) (x : Word) (n : Nat), x = s.reg a → n = (s.reg b).toNat % 32 →
    (∃ res : Word, (∀ k, k < 32 → res.getLsbD k = x.getLsbD ((k + 32 - n) % 32))
      ∧ CompletesW (.rlW d a b) s d res (Config.aluCV .rl 32 x (s.reg b)))
    ∧ (∃ res : Word, (∀ k, k < 32 → res.getLsbD k = x.getLsbD ((k + n) % 32))
      ∧ CompletesW (.rrW d a b) s d res (Config.aluCV .rr 32 x (s.reg b)))
    ∧ (∃ res : Word, (∀ k, k < 32 → res.getLsbD k = (decide (n ≤ k) && x.getLsbD (k - n)))
      ∧ CompletesW (.slW d a b) s d res (Config.aluCV .sl 32 x (s.reg b)))
    ∧ (∃ res : Word, (∀ k, k < 32 → res.getLsbD k = if k + n < 32 then x.getLsbD (k + n) else x.getLsbD 31)
      ∧ CompletesW (.sraW d a b) s d res (Config.aluCV .sra 32 x (s.reg b)))
    ∧ (∃ res : Word, (∀ k, k < 32 → res.getLsbD k = (decide (k + n < 32) && x.getLsbD (k + n)))
      ∧ CompletesW (.srlW d a b) s d res (Config.aluCV .srl 32 x (s.reg b)))

/-- The long rotates and shifts, bit by bit, the amount being the low six bits of the even register (R287, R289, R291,
R293, R294, R400). -/
def Obligations.ShiftLong : Prop :=
  ∀ (s : State) (d a b : RegNum) (x : Long) (n : Nat), x = s.pair a → n = (s.reg b).toNat % 64 →
    d.getLsbD 0 = false → a.getLsbD 0 = false → b.getLsbD 0 = false →
    (∃ res : Long, (∀ k, k < 64 → res.getLsbD k = x.getLsbD ((k + 64 - n) % 64))
      ∧ CompletesL (.rlL d a b) s d res (Config.aluCV .rl 64 x (s.pair b)))
    ∧ (∃ res : Long, (∀ k, k < 64 → res.getLsbD k = x.getLsbD ((k + n) % 64))
      ∧ CompletesL (.rrL d a b) s d res (Config.aluCV .rr 64 x (s.pair b)))
    ∧ (∃ res : Long, (∀ k, k < 64 → res.getLsbD k = (decide (n ≤ k) && x.getLsbD (k - n)))
      ∧ CompletesL (.slL d a b) s d res (Config.aluCV .sl 64 x (s.pair b)))
    ∧ (∃ res : Long, (∀ k, k < 64 → res.getLsbD k = if k + n < 64 then x.getLsbD (k + n) else x.getLsbD 63)
      ∧ CompletesL (.sraL d a b) s d res (Config.aluCV .sra 64 x (s.pair b)))
    ∧ (∃ res : Long, (∀ k, k < 64 → res.getLsbD k = (decide (k + n < 64) && x.getLsbD (k + n)))
      ∧ CompletesL (.srlL d a b) s d res (Config.aluCV .srl 64 x (s.pair b)))

/-- inv, and, or, xor on words and on longs, bit by bit (spec/45_logic.md R391 to R398). -/
def Obligations.Logic : Prop :=
  ∀ (s : State) (d a b : RegNum),
    (∃ res : Word, (∀ k, k < 32 → res.getLsbD k = !(s.reg a).getLsbD k)
      ∧ CompletesW (.invW d a) s d res (Config.aluCV .inv 32 (s.reg a) 0#32))
    ∧ (∃ res : Word, (∀ k, res.getLsbD k = ((s.reg a).getLsbD k && (s.reg b).getLsbD k))
      ∧ CompletesW (.andW d a b) s d res (Config.aluCV .and 32 (s.reg a) (s.reg b)))
    ∧ (∃ res : Word, (∀ k, res.getLsbD k = ((s.reg a).getLsbD k || (s.reg b).getLsbD k))
      ∧ CompletesW (.orW d a b) s d res (Config.aluCV .or 32 (s.reg a) (s.reg b)))
    ∧ (∃ res : Word, (∀ k, res.getLsbD k = ((s.reg a).getLsbD k ^^ (s.reg b).getLsbD k))
      ∧ CompletesW (.xorW d a b) s d res (Config.aluCV .xor 32 (s.reg a) (s.reg b)))
    ∧ (d.getLsbD 0 = false → a.getLsbD 0 = false →
      ∃ res : Long, (∀ k, k < 64 → res.getLsbD k = !(s.pair a).getLsbD k)
        ∧ CompletesL (.invL d a) s d res (Config.aluCV .inv 64 (s.pair a) 0#64))
    ∧ (d.getLsbD 0 = false → a.getLsbD 0 = false → b.getLsbD 0 = false →
      (∃ res : Long, (∀ k, res.getLsbD k = ((s.pair a).getLsbD k && (s.pair b).getLsbD k))
        ∧ CompletesL (.andL d a b) s d res (Config.aluCV .and 64 (s.pair a) (s.pair b)))
      ∧ (∃ res : Long, (∀ k, res.getLsbD k = ((s.pair a).getLsbD k || (s.pair b).getLsbD k))
        ∧ CompletesL (.orL d a b) s d res (Config.aluCV .or 64 (s.pair a) (s.pair b)))
      ∧ (∃ res : Long, (∀ k, res.getLsbD k = ((s.pair a).getLsbD k ^^ (s.pair b).getLsbD k))
        ∧ CompletesL (.xorL d a b) s d res (Config.aluCV .xor 64 (s.pair a) (s.pair b))))

/-- An odd register in a long integer instruction raises E4 (R262, R392). -/
def Obligations.OddLongRaises : Prop :=
  ∀ (s : State) (d a b : RegNum),
    (d.getLsbD 0 = true ∨ a.getLsbD 0 = true → Raises (.invL d a) s 4)
    ∧ (d.getLsbD 0 = true ∨ a.getLsbD 0 = true ∨ b.getLsbD 0 = true →
      Raises (.addL d a b) s 4 ∧ Raises (.subL d a b) s 4 ∧ Raises (.divL d a b) s 4 ∧ Raises (.remL d a b) s 4
      ∧ Raises (.rlL d a b) s 4 ∧ Raises (.rrL d a b) s 4 ∧ Raises (.slL d a b) s 4 ∧ Raises (.sraL d a b) s 4
      ∧ Raises (.srlL d a b) s 4 ∧ Raises (.andL d a b) s 4 ∧ Raises (.orL d a b) s 4 ∧ Raises (.xorL d a b) s 4
      ∧ (s.params.multLMode = .pairByPair → Raises (.multL d a b) s 4))
    ∧ (d.getLsbD 0 = true → Raises (.multL d a b) s 4)

/-! ### Floating point arithmetic (spec/42_arithmetic.md R263) -/

/-- The rounding mode is RN, RZ, RP or RM as CFG[5:4] is 00, 01, 10 or 11 (R38). add, sub, mult, div in `.f` and `.d`
with an FPU: the result of the operation on the unpacked operands in that mode, its flags, its causes pended and nothing
else (R270, R271, R274, R275, R278, R279, R282, R283). -/
def Obligations.FpuCompletes : Prop :=
  ∀ (s : State) (d a b : RegNum), s.params.hasFpu = true →
    (s.cfg.getLsbD 5 = false → s.cfg.getLsbD 4 = false → s.rnd = .rn)
    ∧ (s.cfg.getLsbD 5 = false → s.cfg.getLsbD 4 = true → s.rnd = .rz)
    ∧ (s.cfg.getLsbD 5 = true → s.cfg.getLsbD 4 = false → s.rnd = .rp)
    ∧ (s.cfg.getLsbD 5 = true → s.cfg.getLsbD 4 = true → s.rnd = .rm)
    ∧ (∀ (x y : FpVal), x = unpack .single (s.freg a).toNat → y = unpack .single (s.freg b).toNat →
      CompletesFpuF (.addF d a b) s d (fpAdd .single s.rnd x y)
      ∧ CompletesFpuF (.subF d a b) s d (fpSub .single s.rnd x y)
      ∧ CompletesFpuF (.multF d a b) s d (fpMul .single s.rnd x y)
      ∧ CompletesFpuF (.divF d a b) s d (fpDiv .single s.rnd x y))
    ∧ (∀ (x y : FpVal), x = unpack .double (s.fpair a).toNat → y = unpack .double (s.fpair b).toNat →
      d.getLsbD 0 = false → a.getLsbD 0 = false → b.getLsbD 0 = false →
      CompletesFpuD (.addD d a b) s d (fpAdd .double s.rnd x y)
      ∧ CompletesFpuD (.subD d a b) s d (fpSub .double s.rnd x y)
      ∧ CompletesFpuD (.multD d a b) s d (fpMul .double s.rnd x y)
      ∧ CompletesFpuD (.divD d a b) s d (fpDiv .double s.rnd x y))

/-- Without an FPU they raise E8, before the parity check; with one, an odd register in `.d` raises E5 (R260, R263). -/
def Obligations.FpuTraps : Prop :=
  ∀ (s : State) (d a b : RegNum),
    (s.params.hasFpu = false →
      Raises (.addF d a b) s 8 ∧ Raises (.subF d a b) s 8 ∧ Raises (.multF d a b) s 8 ∧ Raises (.divF d a b) s 8
      ∧ Raises (.addD d a b) s 8 ∧ Raises (.subD d a b) s 8 ∧ Raises (.multD d a b) s 8 ∧ Raises (.divD d a b) s 8)
    ∧ (s.params.hasFpu = true → (d.getLsbD 0 = true ∨ a.getLsbD 0 = true ∨ b.getLsbD 0 = true) →
      Raises (.addD d a b) s 5 ∧ Raises (.subD d a b) s 5 ∧ Raises (.multD d a b) s 5 ∧ Raises (.divD d a b) s 5)

/-- The rounding step is right in all four modes, and its inexact output says whether the value changed (R38). -/
def Obligations.RoundingIsCorrect : Prop :=
  ∀ (f : FpFmt) (rnd : Config.Rnd) (neg : Bool) (m : Nat) (e : Int), f = .single ∨ f = .double → m ≠ 0 →
    IsRounded f rnd neg (finValue false m e) (roundMag f rnd neg m e).1
    ∧ ((roundMag f rnd neg m e).2 = true ↔ magValue f (roundMag f rnd neg m e).1 ≠ finValue false m e)

/-- Sum, difference and product of finite numbers are the exact result rounded once; an exact difference of equal
numbers of one sign is +0, or -0 in RM (R263, R274). When E13 is pended, what an overflow gives and the sign of that zero
are PRESUMED from IEEE 754 (log 29). -/
def Obligations.SumsAndProductsCorrectlyRounded : Prop :=
  ∀ (f : FpFmt) (rnd : Config.Rnd) (n1 : Bool) (m1 : Nat) (e1 : Int) (n2 : Bool) (m2 : Nat) (e2 : Int) (x y : ℚ),
    f = .single ∨ f = .double → x = finValue n1 m1 e1 → y = finValue n2 m2 e2 →
    (x + y ≠ 0 → CorrectlyRounded f rnd (x + y) (fpAdd f rnd (.fin n1 m1 e1) (.fin n2 m2 e2)))
    ∧ (x - y ≠ 0 → CorrectlyRounded f rnd (x - y) (fpSub f rnd (.fin n1 m1 e1) (.fin n2 m2 e2)))
    ∧ (x * y ≠ 0 → CorrectlyRounded f rnd (x * y) (fpMul f rnd (.fin n1 m1 e1) (.fin n2 m2 e2)))
    ∧ (x = y → n1 = n2 → fpSub f rnd (.fin n1 m1 e1) (.fin n2 m2 e2) = ⟨.num (decide (rnd = .rm)) 0, {}⟩)

/-- The quotient of finite numbers that are not zero is the exact quotient rounded once (R263, R282). When E13 is pended
and what an overflow gives are PRESUMED from IEEE 754 (log 29). -/
def Obligations.QuotientsCorrectlyRounded : Prop :=
  ∀ (f : FpFmt) (rnd : Config.Rnd) (n1 : Bool) (m1 : Nat) (e1 : Int) (n2 : Bool) (m2 : Nat) (e2 : Int),
    f = .single ∨ f = .double → m1 ≠ 0 → m2 ≠ 0 →
    CorrectlyRounded f rnd (finValue n1 m1 e1 / finValue n2 m2 e2) (fpDiv f rnd (.fin n1 m1 e1) (.fin n2 m2 e2))

/-- Infinities, zeros and NaNs in `.f` and `.d`: invalid operations give a quiet NaN and pend E10; a finite number over
zero gives a signed infinity and pends E11; infinities and zeros give the infinity or the zero of the sign IEEE 754 asks
for; a NaN operand gives a quiet NaN, and pends E10 exactly when one of them is signalling (R263, R270, R271, R274, R275,
R278, R279, R282, R283). PRESUMED: what a signalling NaN is (log 13); the results and signs that R263 leaves to IEEE 754
(log 29). -/
def Obligations.FpuSpecialOperands : Prop :=
  ∀ (s : State) (d a b : RegNum), s.params.hasFpu = true →
    SpecialOperands (.addF d a b) (.subF d a b) (.multF d a b) (.divF d a b) (class32 (s.freg a)) (class32 (s.freg b))
      (s.freg b = s.freg a) (s.freg b = s.freg a ^^^ 0x80000000#32) (decide (s.rnd = .rm))
      (GivesNanF s d) (GivesInfF s d) (GivesZeroF s d)
    ∧ (d.getLsbD 0 = false → a.getLsbD 0 = false → b.getLsbD 0 = false →
      SpecialOperands (.addD d a b) (.subD d a b) (.multD d a b) (.divD d a b) (class64 (s.fpair a))
        (class64 (s.fpair b)) (s.fpair b = s.fpair a) (s.fpair b = s.fpair a ^^^ 0x8000000000000000#64)
        (decide (s.rnd = .rm)) (GivesNanD s d) (GivesInfD s d) (GivesZeroD s d))

/-! ### Cordic (spec/43_cordic_2op.md, spec/44_cordic_3op.md) -/

/-- The cordic instructions on words and floats write the value of `CORDIC1` or `CORDIC2` with its flags (R311, R361). -/
def Obligations.CordicSingle : Prop :=
  ∀ (s : State) (d a b : RegNum) (f1 : Config.Cordic1Fn) (f2 : Config.Cordic2Fn), s.params.hasCordic = true →
    CompletesW (cordic1Word f1 d a) s d (Config.cordic1 f1 .w (s.reg a) s.rnd).1
      (Config.cordic1 f1 .w (s.reg a) s.rnd).2
    ∧ CompletesW (cordic2Word f2 d a b) s d (Config.cordic2 f2 .w (s.reg a) (s.reg b) s.rnd).1
      (Config.cordic2 f2 .w (s.reg a) (s.reg b) s.rnd).2
    ∧ (s.params.hasFpu = true →
      CompletesF (cordic1Float f1 d a) s d (Config.cordic1 f1 .f (s.freg a) s.rnd).1
      ∧ CompletesF (cordic2Float f2 d a b) s d (Config.cordic2 f2 .f (s.freg a) (s.freg b) s.rnd).1)

/-- The cordic instructions on longs and doubles, with the flags on the odd register (R311, R361). -/
def Obligations.CordicPair : Prop :=
  ∀ (s : State) (d a b : RegNum) (f1 : Config.Cordic1Fn) (f2 : Config.Cordic2Fn), s.params.hasCordic = true →
    d.getLsbD 0 = false → a.getLsbD 0 = false → b.getLsbD 0 = false →
    CompletesL (cordic1Long f1 d a) s d (Config.cordic1 f1 .l (s.pair a) s.rnd).1
      (Config.cordic1 f1 .l (s.pair a) s.rnd).2
    ∧ CompletesL (cordic2Long f2 d a b) s d (Config.cordic2 f2 .l (s.pair a) (s.pair b) s.rnd).1
      (Config.cordic2 f2 .l (s.pair a) (s.pair b) s.rnd).2
    ∧ (s.params.hasFpu = true →
      CompletesD (cordic1Double f1 d a) s d (Config.cordic1 f1 .d (s.fpair a) s.rnd).1
      ∧ CompletesD (cordic2Double f2 d a b) s d (Config.cordic2 f2 .d (s.fpair a) (s.fpair b) s.rnd).1)

/-- The checks of the cordic instructions, in order: E2, E9, E4 or E5 (R312, R362). -/
def Obligations.CordicTraps : Prop :=
  ∀ (s : State) (d a b : RegNum) (f1 : Config.Cordic1Fn) (f2 : Config.Cordic2Fn),
    (s.params.hasCordic = false →
      Raises (cordic1Word f1 d a) s 2 ∧ Raises (cordic1Long f1 d a) s 2 ∧ Raises (cordic1Float f1 d a) s 2
      ∧ Raises (cordic1Double f1 d a) s 2 ∧ Raises (cordic2Word f2 d a b) s 2 ∧ Raises (cordic2Long f2 d a b) s 2
      ∧ Raises (cordic2Float f2 d a b) s 2 ∧ Raises (cordic2Double f2 d a b) s 2)
    ∧ (s.params.hasCordic = true → s.params.hasFpu = false →
      Raises (cordic1Float f1 d a) s 9 ∧ Raises (cordic1Double f1 d a) s 9 ∧ Raises (cordic2Float f2 d a b) s 9
      ∧ Raises (cordic2Double f2 d a b) s 9)
    ∧ (s.params.hasCordic = true → d.getLsbD 0 = true ∨ a.getLsbD 0 = true →
      Raises (cordic1Long f1 d a) s 4 ∧ (s.params.hasFpu = true → Raises (cordic1Double f1 d a) s 5))
    ∧ (s.params.hasCordic = true → d.getLsbD 0 = true ∨ a.getLsbD 0 = true ∨ b.getLsbD 0 = true →
      Raises (cordic2Long f2 d a b) s 4 ∧ (s.params.hasFpu = true → Raises (cordic2Double f2 d a b) s 5))

/-! ### Control (spec/46_control.md) -/

/-- j adds its displacement to the next word, in either width of `J_DISP_BITS`. For the words an admitted program holds
both widths give one target (R410, R118); that the other words, whose bits 27:26 do not repeat bit 25, run too is THE
MODEL'S CHOICE (log 16). -/
def Obligations.Jump : Prop :=
  ∀ (s : State) (dis : BitVec 28),
    (s.params.jDispBits = .bits26 →
      exec (.j dis) s = .next { s with pc := s.pc + 1#30 + (dis.extractLsb' 0 26).signExtend 30 })
    ∧ (s.params.jDispBits = .bits28 → exec (.j dis) s = .next { s with pc := s.pc + 1#30 + dis.signExtend 30 })
    ∧ (Instr.jumpCanonical (.j dis) = true →
      exec (.j dis) s = .next { s with pc := BitVec.ofInt 30 (s.pc.toInt + 1 + dis.toInt) })

/-- jr, jal, jral: the targets, the link value and the frame; a destination that is the source is read first (R413 to
R415, R441). -/
def Obligations.RegisterJumpsAndLinks : Prop :=
  ∀ (s : State) (d a : RegNum) (dis : BitVec 16),
    exec (.jr a) s = .next { s with pc := BitVec.ofNat 30 ((s.reg a).toNat / 4) }
    ∧ (∃ t, exec (.jal d dis) s = .next t ∧ Frame s t [d] [] [] ∧ t.cr = s.cr
      ∧ t.pc = BitVec.ofInt 30 (s.pc.toInt + 1 + dis.toInt)
      ∧ t.gpr d = { s.gpr d with val := BitVec.ofNat 32 (4 * (s.pc.toNat + 1)) })
    ∧ (∃ t, exec (.jral d a) s = .next t ∧ Frame s t [d] [] [] ∧ t.cr = s.cr
      ∧ t.pc = BitVec.ofNat 30 ((s.reg a).toNat / 4)
      ∧ t.gpr d = { s.gpr d with val := BitVec.ofNat 32 (4 * (s.pc.toNat + 1)) })

/-- The sixteen branches test one stored flag, or the sign bit, and change PC only (R416 to R432). -/
def Obligations.Branches : Prop :=
  ∀ (s : State) (r : RegNum) (dis : BitVec 17),
    exec (.bc r dis) s = .next (branched s (s.gpr r).c dis) ∧ exec (.bv r dis) s = .next (branched s (s.gpr r).v dis)
    ∧ exec (.bz r dis) s = .next (branched s (s.gpr r).z dis)
    ∧ exec (.bn r dis) s = .next (branched s ((s.reg r).getLsbD 31) dis)
    ∧ exec (.bnc r dis) s = .next (branched s (!(s.gpr r).c) dis)
    ∧ exec (.bnv r dis) s = .next (branched s (!(s.gpr r).v) dis)
    ∧ exec (.bnz r dis) s = .next (branched s (!(s.gpr r).z) dis)
    ∧ exec (.bnn r dis) s = .next (branched s (!(s.reg r).getLsbD 31) dis)
    ∧ exec (.bfpan r dis) s = .next (branched s (s.fpr r).a dis)
    ∧ exec (.bfpinf r dis) s = .next (branched s (s.fpr r).i dis)
    ∧ exec (.bfpz r dis) s = .next (branched s (s.fpr r).z dis)
    ∧ exec (.bfpn r dis) s = .next (branched s ((s.freg r).getLsbD 31) dis)
    ∧ exec (.bfpnan r dis) s = .next (branched s (!(s.fpr r).a) dis)
    ∧ exec (.bfpninf r dis) s = .next (branched s (!(s.fpr r).i) dis)
    ∧ exec (.bfpnz r dis) s = .next (branched s (!(s.fpr r).z) dis)
    ∧ exec (.bfpnn r dis) s = .next (branched s (!(s.freg r).getLsbD 31) dis)

/-- trap pends E31 and does nothing else, in both modes; rfe in supervisor mode, without and with nesting: the whole next
state (R411, R412, spec/60_exceptions.md R525). -/
def Obligations.TrapAndReturn : Prop :=
  ∀ s : State, Raises .trap s 31 ∧ (s.cfg.getLsbD 0 = false →
    ((s.params.hasLrs && s.cfg.getLsbD 1) = false →
      exec .rfe s = .next { s with
        pc := BitVec.ofNat 30 (s.link 0#5).toNat, mr := 0#1 ++ s.mr.extractLsb' 0 32
        cfg := s.cfg.extractLsb' 1 5 ++ 1#1 })
    ∧ ((s.params.hasLrs && s.cfg.getLsbD 1) = true →
      exec .rfe s = .next { s with
        esp := s.esp - 1#5, pc := BitVec.ofNat 30 (s.link (s.esp - 1#5)).toNat
        cfg := s.cfg.extractLsb' 1 5 ++ 1#1 }))

/-! ### Conversions (spec/47_conversion.md) -/

/-- The ten conversions write the value of `CNV` with its flags (R450, R452 to R462). -/
def Obligations.ConversionsComplete : Prop :=
  ∀ (s : State) (d a : RegNum), s.params.hasFpu = true →
    CompletesW (.cnvf2w d a) s d ((cnv .f2w ((s.freg a).setWidth 64) s.rnd).1.setWidth 32)
      (Config.cnvCV .f2w ((s.freg a).setWidth 64) s.rnd)
    ∧ CompletesF (.cnvw2f d a) s d ((cnv .w2f ((s.reg a).setWidth 64) s.rnd).1.setWidth 32)
    ∧ (a.getLsbD 0 = false →
      CompletesF (.cnvd2f d a) s d ((cnv .d2f (s.fpair a) s.rnd).1.setWidth 32)
      ∧ CompletesF (.cnvl2f d a) s d ((cnv .l2f (s.pair a) s.rnd).1.setWidth 32)
      ∧ CompletesW (.cnvd2w d a) s d ((cnv .d2w (s.fpair a) s.rnd).1.setWidth 32)
        (Config.cnvCV .d2w (s.fpair a) s.rnd))
    ∧ (d.getLsbD 0 = false →
      CompletesD (.cnvf2d d a) s d (cnv .f2d ((s.freg a).setWidth 64) s.rnd).1
      ∧ CompletesD (.cnvw2d d a) s d (cnv .w2d ((s.reg a).setWidth 64) s.rnd).1
      ∧ CompletesL (.cnvf2l d a) s d (cnv .f2l ((s.freg a).setWidth 64) s.rnd).1
        (Config.cnvCV .f2l ((s.freg a).setWidth 64) s.rnd))
    ∧ (d.getLsbD 0 = false → a.getLsbD 0 = false →
      CompletesD (.cnvl2d d a) s d (cnv .l2d (s.pair a) s.rnd).1
      ∧ CompletesL (.cnvd2l d a) s d (cnv .d2l (s.fpair a) s.rnd).1 (Config.cnvCV .d2l (s.fpair a) s.rnd))

/-- The checks of the conversions, in order: E8, then the destination's parity, then the source's (R451). -/
def Obligations.ConversionTraps : Prop :=
  ∀ (s : State) (d a : RegNum),
    (s.params.hasFpu = false →
      Raises (.cnvf2d d a) s 8 ∧ Raises (.cnvd2f d a) s 8 ∧ Raises (.cnvf2w d a) s 8 ∧ Raises (.cnvw2f d a) s 8
      ∧ Raises (.cnvd2w d a) s 8 ∧ Raises (.cnvw2d d a) s 8 ∧ Raises (.cnvf2l d a) s 8 ∧ Raises (.cnvl2f d a) s 8
      ∧ Raises (.cnvd2l d a) s 8 ∧ Raises (.cnvl2d d a) s 8)
    ∧ (s.params.hasFpu = true → d.getLsbD 0 = true →
      Raises (.cnvf2d d a) s 5 ∧ Raises (.cnvw2d d a) s 5 ∧ Raises (.cnvl2d d a) s 5 ∧ Raises (.cnvf2l d a) s 4
      ∧ Raises (.cnvd2l d a) s 4)
    ∧ (s.params.hasFpu = true → a.getLsbD 0 = true →
      Raises (.cnvd2f d a) s 5 ∧ Raises (.cnvd2w d a) s 5 ∧ Raises (.cnvl2f d a) s 4
      ∧ (d.getLsbD 0 = false → Raises (.cnvd2l d a) s 5 ∧ Raises (.cnvl2d d a) s 4))

/-- Integers that the float format holds convert to the number of that value: every word to a double, longs of at most
53 significant bits to a double, words and longs of at most 24 to a float (R450 constraint E). -/
def Obligations.IntegerToFloatExact : Prop :=
  ∀ (s : State) (d a : RegNum) (sig k : Nat), s.params.hasFpu = true →
    (d.getLsbD 0 = false →
      ∃ t n m e, exec (.cnvw2d d a) s = .next t ∧ unpack .double (t.fpair d).toNat = .fin n m e
        ∧ finValue n m e = ((s.reg a).toInt : ℚ) ∧ (n = true → (s.reg a).toInt ≠ 0))
    ∧ (d.getLsbD 0 = false → a.getLsbD 0 = false → (s.pair a).toInt.natAbs = sig * 2 ^ k → sig < 2 ^ 53 →
      ∃ t n m e, exec (.cnvl2d d a) s = .next t ∧ unpack .double (t.fpair d).toNat = .fin n m e
        ∧ finValue n m e = ((s.pair a).toInt : ℚ) ∧ (n = true → (s.pair a).toInt ≠ 0))
    ∧ ((s.reg a).toInt.natAbs = sig * 2 ^ k → sig < 2 ^ 24 →
      ∃ t n m e, exec (.cnvw2f d a) s = .next t ∧ unpack .single (t.freg d).toNat = .fin n m e
        ∧ finValue n m e = ((s.reg a).toInt : ℚ) ∧ (n = true → (s.reg a).toInt ≠ 0))
    ∧ (a.getLsbD 0 = false → (s.pair a).toInt.natAbs = sig * 2 ^ k → sig < 2 ^ 24 →
      ∃ t n m e, exec (.cnvl2f d a) s = .next t ∧ unpack .single (t.freg d).toNat = .fin n m e
        ∧ finValue n m e = ((s.pair a).toInt : ℚ) ∧ (n = true → (s.pair a).toInt ≠ 0))

/-- Integer-valued floats and doubles in the signed range of the destination convert to that integer (R450 constraint
E). -/
def Obligations.FloatToIntegerExact : Prop :=
  ∀ (s : State) (d a : RegNum) (n : Bool) (m : Nat) (e v : Int), s.params.hasFpu = true → finValue n m e = (v : ℚ) →
    (unpack .single (s.freg a).toNat = .fin n m e → -2 ^ 31 ≤ v → v < 2 ^ 31 →
      ∃ t, exec (.cnvf2w d a) s = .next t ∧ (t.reg d).toInt = v)
    ∧ (a.getLsbD 0 = false → unpack .double (s.fpair a).toNat = .fin n m e → -2 ^ 31 ≤ v → v < 2 ^ 31 →
      ∃ t, exec (.cnvd2w d a) s = .next t ∧ (t.reg d).toInt = v)
    ∧ (d.getLsbD 0 = false → unpack .single (s.freg a).toNat = .fin n m e → -2 ^ 63 ≤ v → v < 2 ^ 63 →
      ∃ t, exec (.cnvf2l d a) s = .next t ∧ (t.pair d).toInt = v)
    ∧ (d.getLsbD 0 = false → a.getLsbD 0 = false → unpack .double (s.fpair a).toNat = .fin n m e → -2 ^ 63 ≤ v →
      v < 2 ^ 63 → ∃ t, exec (.cnvd2l d a) s = .next t ∧ (t.pair d).toInt = v)

/-- Every float that is not a NaN converts to the double of its value and sign, and every double whose value and sign a
float has converts to that float (R450 constraint E, R453, R454). -/
def Obligations.FloatToDoubleExact : Prop :=
  ∀ (s : State) (d a : RegNum) (n : Bool), s.params.hasFpu = true →
    (d.getLsbD 0 = false →
      (unpack .single (s.freg a).toNat = .inf n →
        ∃ t, exec (.cnvf2d d a) s = .next t ∧ unpack .double (t.fpair d).toNat = .inf n)
      ∧ (∀ m e, unpack .single (s.freg a).toNat = .fin n m e →
        ∃ t m' e', exec (.cnvf2d d a) s = .next t ∧ unpack .double (t.fpair d).toNat = .fin n m' e'
          ∧ finValue n m' e' = finValue n m e))
    ∧ (a.getLsbD 0 = false →
      (unpack .double (s.fpair a).toNat = .inf n →
        ∃ t, exec (.cnvd2f d a) s = .next t ∧ unpack .single (t.freg d).toNat = .inf n)
      ∧ (∀ (m m' : Nat) (e e' : Int) (x : Word), unpack .double (s.fpair a).toNat = .fin n m e →
        unpack .single x.toNat = .fin n m' e' → finValue n m' e' = finValue n m e →
        ∃ t, exec (.cnvd2f d a) s = .next t ∧ t.freg d = x))

/-! ### Exceptions, timer, reset and the step (spec/60_exceptions.md, spec/70_reset_and_hazards.md) -/

/-- Entry: what is saved, where PC goes, what MR, CR, CFG, ESP and iack become, and that nothing else changes (R520,
R546). The return index is the PC at detection (R547, D10), but for the asynchronous causes E1 and E30 when `ASYNC_RETURN`
is last-pc-plus-1: then it is the index after the instruction executed last, THE MODEL'S reading of that value (log 20). -/
def Obligations.EntryEffect : Prop :=
  ∀ (s t : State) (k : Nat) (ret : WordIdx), 1 ≤ k → k ≤ 31 → t = s.enter k →
    ret = (if s.params.asyncReturn = .lastPcPlus1 ∧ (k = 1 ∨ k = 30) then s.lastPc + 1#30 else s.pc) →
    t.pc.toNat = k ∧ t.cr.getLsbD k = false ∧ (∀ j, j ≠ k → t.cr.getLsbD j = s.cr.getLsbD j)
    ∧ t.cfg.getLsbD 0 = false ∧ (∀ j, j ≠ 0 → t.cfg.getLsbD j = s.cfg.getLsbD j)
    ∧ (k = 30 → t.iack = true) ∧ (k ≠ 30 → t.iack = s.iack)
    ∧ t = { s with pc := t.pc, cr := t.cr, cfg := t.cfg, mr := t.mr, links := t.links, esp := t.esp, iack := t.iack }
    ∧ ((s.params.hasLrs && s.cfg.getLsbD 1) = false →
      t.link 0#5 = (s.link 0#5).extractLsb' 30 6 ++ ret ∧ (∀ j : BitVec 5, j ≠ 0#5 → t.link j = s.link j)
      ∧ t.mr = 1#1 ++ s.mr.extractLsb' 0 32 ∧ t.esp = s.esp)
    ∧ ((s.params.hasLrs && s.cfg.getLsbD 1) = true →
      t.link s.esp = (s.link s.esp).extractLsb' 30 6 ++ ret
      ∧ t.link (s.esp + 1#5) = (s.link (s.esp + 1#5)).extractLsb' 35 1 ++ BitVec.ofNat 5 k
          ++ (s.link (s.esp + 1#5)).extractLsb' 0 30
      ∧ (∀ j : BitVec 5, j ≠ s.esp → j ≠ s.esp + 1#5 → t.link j = s.link j)
      ∧ t.mr = s.mr ∧ t.esp = s.esp + 1#5)

/-- Priorities: detection enters the lowest of the pending enabled causes, the others stay pending; nothing is entered when
there is none; a Reset goes before them all (R507, with the enabled causes of R506; R570, and R501 as log 22 reads it:
the Reset discards a request that comes with it). -/
def Obligations.DetectionEntersLowestEnabled : Prop :=
  ∀ (s : State) (enabled : Nat → Prop),
    (∀ k, enabled k ↔ s.mr.getLsbD k = false ∧ s.mr.getLsbD 32 = false
      ∧ ((s.params.hasLrs && s.cfg.getLsbD 1) = false ∨ k < (s.link s.esp).toNat / 2 ^ 30)) →
    (∀ k, 1 ≤ k → k ≤ 31 → s.cr.getLsbD k = true → enabled k →
      (∀ j, 1 ≤ j → j < k → ¬(s.cr.getLsbD j = true ∧ enabled j)) →
      s.detect = s.enter k ∧ ∀ j, j ≠ k → s.detect.cr.getLsbD j = s.cr.getLsbD j)
    ∧ ((∀ k, 1 ≤ k → k ≤ 31 → ¬(s.cr.getLsbD k = true ∧ enabled k)) → s.detect = s)
    ∧ (∀ evs rest, s.inputs = evs :: rest → .reset ∈ evs →
      s.environment.detect = s.environment ∧ s.environment.pc = 0#30)

/-- One tick of the timer: counting down, E1 when it reaches zero, reload or stop at zero, nothing else (R541). -/
def Obligations.TimerTick : Prop :=
  ∀ s : State,
    (1 < s.tmr.toNat → s.timerTick = { s with tmr := s.tmr - 1#32 })
    ∧ (s.tmr.toNat = 1 → ∃ cr, s.timerTick = { s with tmr := 0#32, cr := cr } ∧ cr.getLsbD 1 = true
      ∧ ∀ j, j ≠ 1 → cr.getLsbD j = s.cr.getLsbD j)
    ∧ (s.tmr.toNat = 0 → s.cfg.getLsbD 2 = false →
      s.timerTick = { s with tmr := BitVec.ofNat 32 (1024 * s.stp.toNat + 1023) })
    ∧ (s.tmr.toNat = 0 → s.cfg.getLsbD 2 = true → s.timerTick = s)

/-- State.reset has every register and flag at its reset value. The Reset event among the events of a step gives them
too and leaves both memories (R570, R571, spec/10_state.md R70); it discards the other events (R501 as log 22 reads it). -/
def Obligations.ResetValues : Prop :=
  AtReset State.reset
  ∧ ∀ (s t : State) (evs : List EnvEvent) (rest : List (List EnvEvent)), s.inputs = evs :: rest → .reset ∈ evs →
    t = s.environment →
    AtReset t ∧ t.dm = s.dm ∧ t.im = s.im ∧ t.params = s.params ∧ t.inputs = rest

/-- A step's environment consumes its input and applies the input's events in order, with one tick of the timer after
them where the input lists none or has ended (R501, R541, R544; log 2, 3, 25). IrqRaise pends E30 and clears iack; a post
writes PRA and PRD; nothing else changes (R547, R546, R551). -/
def Obligations.EnvironmentEvents : Prop :=
  ∀ (s : State) (pra prd : Word),
    (∀ (evs : List EnvEvent) (rest : List (List EnvEvent)) (t : State), s.inputs = evs :: rest → .reset ∉ evs →
      t = evs.foldl State.event { s with inputs := rest } →
      (.tick ∈ evs → s.environment = t) ∧ (.tick ∉ evs → s.environment = t.timerTick))
    ∧ (s.inputs = [] → s.environment = s.timerTick)
    ∧ s.event .tick = s.timerTick
    ∧ (∃ cr, s.event (.irqRaise none) = { s with cr := cr, iack := false } ∧ cr.getLsbD 30 = true
      ∧ (∀ j, j ≠ 30 → cr.getLsbD j = s.cr.getLsbD j)
      ∧ s.event (.irqRaise (some (pra, prd))) = { s with cr := cr, iack := false, pra := pra, prd := prd })
    ∧ s.event (.peripheralPost pra prd) = { s with pra := pra, prd := prd }

/-- When the bytes at PC, after the environment's events and detection, decode to an instruction, the step is that
instruction on the state with IR loaded (and the index of the fetch noted, log 20). With one clock tick and no other event,
and no enabled pending cause after it, the tick is all that happens before it (R501, R9, R128, R544, log 3). -/
def Obligations.StepRunsDecoded : Prop :=
  ∀ (s b : State) (b0 b1 b2 b3 : Byte) (i : Instr), b = s.environment.detect →
    b.im.read (4 * b.pc.toNat) = some b0 → b.im.read (4 * b.pc.toNat + 1) = some b1 →
    b.im.read (4 * b.pc.toNat + 2) = some b2 → b.im.read (4 * b.pc.toNat + 3) = some b3 →
    decodeBytes b.params [b0, b1, b2, b3] = some (.ok i, []) →
    step s = exec i { b with ir := b0 ++ b1 ++ b2 ++ b3, lastPc := b.pc }
    ∧ (∀ rest, (s.inputs = [] :: rest ∨ s.inputs = [.tick] :: rest) → s.timerTick.pendingCause = none →
      b = { s.timerTick with inputs := rest })

/-- A word that selects no instruction raises E2; the three treatments of non-zero undefined bits (R127, R119), which THE
MODEL applies to a cordic word without the cordic unit too (log 31); and, THE MODEL'S CHOICE (log 6), a fetch where the
platform holds no whole word stops. -/
def Obligations.StepOnOtherWords : Prop :=
  ∀ (s b : State), b = s.environment.detect →
    (b.codeWord b.pc = none → step s = .fault .unpopulatedCode)
    ∧ ∀ w, b.codeWord b.pc = some w →
      (select b.params w = none → ∃ t, step s = .next t ∧ Raised { b with ir := w, lastPc := b.pc } t 2)
      ∧ ∀ i, select b.params w = some i → w &&& undefinedMask w ≠ 0#32 →
        (b.params.undefBits = .refuse → step s = .refused .undefinedBits)
        ∧ (b.params.undefBits = .ignore → step s = exec i { b with ir := w, lastPc := b.pc })
        ∧ (b.params.undefBits = .raiseE2 →
          ∃ t, step s = .next t ∧ Raised { b with ir := w, lastPc := b.pc } t 2)

/-! ### Decoding (spec/30_encoding.md) -/

/-- Words of the spec's examples decode to the instructions it names, one of each format (R111 to R114). -/
def Obligations.DecodeExamples : Prop :=
  decodeTableWord 32 0x0FFFFFFF = some (.j 0xFFFFFFF#28) ∧ decodeTableWord 32 0x10000000 = some .trap
  ∧ decodeTableWord 32 0x43E00000 = some (.jr 31#5) ∧ decodeTableWord 32 0x441F0010 = some (.jal 31#5 16#16)
  ∧ decodeTableWord 32 0x482DFFFE = some (.bnz 1#5 0x1FFFE#17)
  ∧ decodeTableWord 32 0x54011234 = some (.lhi 1#5 0x1234#16)
  ∧ decodeTableWord 32 0x80810220 = some (.movs2w 1#5 4#5) ∧ decodeTableWord 32 0x80820250 = some (.cnvl2d 2#5 4#5)
  ∧ decodeTableWord 32 0x80820790 = some (.sqrtD 2#5 4#5)
  ∧ decodeTableWord 32 0x9C41FFFE = some (.loadH 1#5 2#5 0xFFFE#16)
  ∧ decodeTableWord 32 0x8C210001 = some (.subiW 1#5 1#5 1#16)
  ∧ decodeTableWord 32 0xB4410000 = some (.storeW 1#5 2#5 0#16)
  ∧ decodeTableWord 32 0xBC41C800 = some (.movfg2nF 1#5 2#5 1#3)
  ∧ decodeTableWord 32 0xC00412B0 = some (.sraL 4#5 0#5 2#5) ∧ decodeTableWord 32 0xC0041750 = some (.atan2D 4#5 0#5 2#5)

/-- Every instruction decodes from its own encoding, with every operand, whatever the three recovered opcodes are
(R110 to R128). -/
def Obligations.DecodeOfEncode : Prop :=
  ∀ (p : Config.Params) (i : Instr), p.opcodesDistinct = true → decode p (encode p i) = .ok i

/-- Every word that decodes is the encoding of its instruction: no two words mean one instruction (R119, R128). -/
def Obligations.EncodeOfDecode : Prop :=
  ∀ (p : Config.Params) (w : Word) (i : Instr), decode p w = .ok i → encode p i = w

/-! ### The whole machine -/

/-- The invariant holds after reset. -/
def Obligations.InvAtReset : Prop := State.reset.Inv

/-- Every step keeps the invariant: CFG[3] is never stored, CFG[1] and ESP stay 0 without the link register stack, the
"no handler" marker is in L0 only, CR[0] and CR[29:14] stay 0, both memories stay canonical (spec/10_state.md R41, R42, R55, R57,
spec/60_exceptions.md R519). -/
def Obligations.StepKeepsInv : Prop := ∀ s t : State, s.Inv → step s = .next t → t.Inv

/-- No step changes the instruction memory (spec/20_memory.md R97) or the implementation's parameters, which are THE
MODEL'S own field (log 1). -/
def Obligations.StepKeepsCode : Prop := ∀ s t : State, step s = .next t → t.im = s.im ∧ t.params = s.params

/-- Only movw2s and rfe, and those only in supervisor mode, change a special register other than PC and CR or a link
register (spec/60_exceptions.md R530). -/
def Obligations.UserModeKeepsSystem : Prop :=
  ∀ (s t : State) (i : Instr), exec i s = .next t →
    (s.cfg.getLsbD 0 = true ∨ i ≠ .rfe ∧ ∀ k r, i ≠ .movw2s k r) → SameSystem s t ∧ t.ir = s.ir

/-- Mode transitions: a Reset and every entry give supervisor mode, rfe gives user mode, a supervisor movw2s to CFG gives
either, no other instruction changes the mode, and a step leaves user mode only through a Reset or an entry (R531). -/
def Obligations.ModeTransitions : Prop :=
  ∀ s : State,
    (∀ evs rest, s.inputs = evs :: rest → .reset ∈ evs → s.environment.cfg.getLsbD 0 = false)
    ∧ (∀ k, (s.enter k).cfg.getLsbD 0 = false)
    ∧ (s.cfg.getLsbD 0 = false → (∃ t, exec .rfe s = .next t ∧ t.cfg.getLsbD 0 = true)
      ∧ ∀ a, ∃ t, exec (.movw2s 0#5 a) s = .next t ∧ t.cfg.getLsbD 0 = (s.reg a).getLsbD 0)
    ∧ (∀ i t, exec i s = .next t → t.cfg.getLsbD 0 ≠ s.cfg.getLsbD 0 →
      s.cfg.getLsbD 0 = false ∧ (i = .rfe ∨ ∃ a, i = .movw2s 0#5 a))
    ∧ ∀ t, step s = .next t → s.cfg.getLsbD 0 = true → t.cfg.getLsbD 0 = false →
      (∃ evs rest, s.inputs = evs :: rest ∧ .reset ∈ evs) ∨ s.environment.pendingCause ≠ none

/-- Only the four stores write data memory, only they and the six loads read it, and neither the environment's events nor
an exception entry does either (spec/20_memory.md R81). -/
def Obligations.OnlyLoadsAndStoresReachData : Prop :=
  ∀ (s : State) (m : Memory),
    (∀ i t, exec i s = .next t →
      (∀ r b dis, i ≠ .storeB r b dis ∧ i ≠ .storeH r b dis ∧ i ≠ .storeW r b dis ∧ i ≠ .storeF r b dis) → t.dm = s.dm)
    ∧ (∀ i t, exec i s = .next t →
      (∀ r b dis, i ≠ .storeB r b dis ∧ i ≠ .storeH r b dis ∧ i ≠ .storeW r b dis ∧ i ≠ .storeF r b dis
        ∧ i ≠ .loadB r b dis ∧ i ≠ .loaduB r b dis ∧ i ≠ .loadH r b dis ∧ i ≠ .loaduH r b dis ∧ i ≠ .loadW r b dis
        ∧ i ≠ .loadF r b dis) → exec i { s with dm := m } = .next { t with dm := m })
    ∧ ({ s with dm := m } : State).environment.detect = { s.environment.detect with dm := m }

/-- A cause stays pending until its exception is entered or a Reset comes, and no instruction sets a cause but 2 to 13 and
31 (spec/10_state.md R54, spec/60_exceptions.md R510, R519). -/
def Obligations.CausesStayPending : Prop :=
  ∀ (s t : State) (k : Nat),
    (∀ i, exec i s = .next t → (s.cr.getLsbD k = true → t.cr.getLsbD k = true)
      ∧ (t.cr.getLsbD k = true → s.cr.getLsbD k = true ∨ 2 ≤ k ∧ k ≤ 13 ∨ k = 31))
    ∧ (step s = .next t → s.cr.getLsbD k = true → t.cr.getLsbD k = false →
      s.environment.pendingCause = some k ∨ ∃ evs rest, s.inputs = evs :: rest ∧ .reset ∈ evs)

/-- At rest, in the self-jump with the timer's cause masked, a step with any number of clock ticks changes nothing but
TMR and CR[1] (spec/70_reset_and_hazards.md R593, which leaves IR out; here IR is the self-jump's word, and the model's
`lastPc` its index, log 20). -/
def Obligations.AtRestStaysAtRest : Prop :=
  ∀ (s : State) (n : Nat) (rest : List (List EnvEvent)), s.inputs = List.replicate n .tick :: rest →
    s.codeWord s.pc = some 0x0FFFFFFF#32 → s.pendingCause = none → (s.mr.getLsbD 1 = true ∨ s.mr.getLsbD 32 = true) →
    ∃ tmr cr, step s = .next { s with inputs := rest, ir := 0x0FFFFFFF#32, lastPc := s.pc, tmr := tmr, cr := cr }
      ∧ ∀ j, j ≠ 1 → cr.getLsbD j = s.cr.getLsbD j
end

