-- ==== Sys2Proof/Laws/Encoding.lean ====
section
/-! SUPPORT. The fields of an encoded word, format by format (spec/30_encoding.md R111 to R114). -/

namespace Sys2Proof

/-- The slice of an appended word that is its low part. -/
theorem extract_append_low {m n : Nat} (a : BitVec m) (b : BitVec n) (lo len : Nat) (h : lo + len ≤ n) :
    (a ++ b).extractLsb' lo len = b.extractLsb' lo len := by
  apply BitVec.eq_of_getLsbD_eq
  intro i hi
  simp only [BitVec.getLsbD_extractLsb', hi, decide_true, Bool.true_and, BitVec.getLsbD_append]
  rw [if_pos (by omega)]

/-- The slice of an appended word that lies in its high part. -/
theorem extract_append_high {m n : Nat} (a : BitVec m) (b : BitVec n) (lo len : Nat) (h : n ≤ lo) :
    (a ++ b).extractLsb' lo len = a.extractLsb' (lo - n) len := by
  apply BitVec.eq_of_getLsbD_eq
  intro i hi
  simp only [BitVec.getLsbD_extractLsb', hi, decide_true, Bool.true_and, BitVec.getLsbD_append]
  rw [if_neg (by omega)]
  congr 1
  omega

theorem extract_all {n : Nat} (a : BitVec n) : a.extractLsb' 0 n = a := by
  apply BitVec.eq_of_getLsbD_eq
  intro i hi
  simp [hi]

theorem encodeType0_fields (op : BitVec 2) (dis : BitVec 28) :
    fieldType (encodeType0 op dis) = 0b00#2
      ∧ fieldOp0 (encodeType0 op dis) = op
      ∧ fieldDis28 (encodeType0 op dis) = dis := by
  simp (disch := omega) only [fieldType, fieldOp0, fieldDis28, encodeType0, extract_append_low,
    extract_append_high, extract_all, Nat.reduceSub, and_self]

theorem encodeJumpReg_fields (src : RegNum) :
    fieldType (encodeJumpReg src) = 0b01#2
      ∧ fieldOp (encodeJumpReg src) = 0b0000#4
      ∧ fieldSrc (encodeJumpReg src) = src := by
  simp (disch := omega) only [fieldType, fieldOp, fieldSrc, encodeJumpReg, extract_append_low,
    extract_append_high, extract_all, Nat.reduceSub, and_self]

theorem encodeJumpReg_undefined (src : RegNum) : encodeJumpReg src &&& 0x001FFFFF#32 = 0#32 := by
  apply BitVec.eq_of_getLsbD_eq
  intro i hi
  simp only [encodeJumpReg, BitVec.getLsbD_and, BitVec.getLsbD_append, BitVec.getLsbD_zero]
  interval_cases i <;> simp

theorem encodeType1Dst_fields (op : BitVec 4) (dst : RegNum) (imm : BitVec 16) :
    fieldType (encodeType1Dst op dst imm) = 0b01#2
      ∧ fieldOp (encodeType1Dst op dst imm) = op
      ∧ fieldDst (encodeType1Dst op dst imm) = dst
      ∧ fieldImm16 (encodeType1Dst op dst imm) = imm := by
  simp (disch := omega) only [fieldType, fieldOp, fieldDst, fieldImm16, encodeType1Dst, extract_append_low,
    extract_append_high, extract_all, Nat.reduceSub, and_self]

theorem encodeType1Dst_undefined (op : BitVec 4) (dst : RegNum) (imm : BitVec 16) : encodeType1Dst op dst imm &&& 0x03E00000#32 = 0#32 := by
  apply BitVec.eq_of_getLsbD_eq
  intro i hi
  simp only [encodeType1Dst, BitVec.getLsbD_and, BitVec.getLsbD_append, BitVec.getLsbD_zero]
  interval_cases i <;> simp

theorem encodeBranch_fields (cond : BitVec 4) (src : RegNum) (dis : BitVec 17) :
    fieldType (encodeBranch cond src dis) = 0b01#2
      ∧ fieldOp (encodeBranch cond src dis) = 0b0010#4
      ∧ fieldSrc (encodeBranch cond src dis) = src
      ∧ fieldCond (encodeBranch cond src dis) = cond
      ∧ fieldDis17 (encodeBranch cond src dis) = dis := by
  simp (disch := omega) only [fieldType, fieldOp, fieldSrc, fieldCond, fieldDis17, encodeBranch, extract_append_low,
    extract_append_high, extract_all, Nat.reduceSub, and_self]

theorem encodeType2_fields (op : BitVec 4) (src dst : RegNum) (imm : BitVec 16) :
    fieldType (encodeType2 op src dst imm) = 0b10#2
      ∧ fieldOp (encodeType2 op src dst imm) = op
      ∧ fieldSrc (encodeType2 op src dst imm) = src
      ∧ fieldDst (encodeType2 op src dst imm) = dst
      ∧ fieldImm16 (encodeType2 op src dst imm) = imm := by
  simp (disch := omega) only [fieldType, fieldOp, fieldSrc, fieldDst, fieldImm16, encodeType2, extract_append_low,
    extract_append_high, extract_all, Nat.reduceSub, and_self]

theorem encodeGroupA_fields (sub : BitVec 5) (v : BitVec 2) (src dst : RegNum) :
    fieldType (encodeGroupA sub v src dst) = 0b10#2
      ∧ fieldOp (encodeGroupA sub v src dst) = 0b0000#4
      ∧ fieldSub (encodeGroupA sub v src dst) = sub
      ∧ fieldV (encodeGroupA sub v src dst) = v
      ∧ fieldSrc (encodeGroupA sub v src dst) = src
      ∧ fieldDst (encodeGroupA sub v src dst) = dst := by
  simp (disch := omega) only [fieldType, fieldOp, fieldSub, fieldV, fieldSrc, fieldDst, encodeGroupA, extract_append_low,
    extract_append_high, extract_all, Nat.reduceSub, and_self]

theorem encodeGroupA_undefined (sub : BitVec 5) (v : BitVec 2) (src dst : RegNum) : encodeGroupA sub v src dst &&& 0x0000F80F#32 = 0#32 := by
  apply BitVec.eq_of_getLsbD_eq
  intro i hi
  simp only [encodeGroupA, BitVec.getLsbD_and, BitVec.getLsbD_append, BitVec.getLsbD_zero]
  interval_cases i <;> simp

theorem encodeGroupE_fields (so : BitVec 2) (src dst : RegNum) (nib : BitVec 3) :
    fieldType (encodeGroupE so src dst nib) = 0b10#2
      ∧ fieldOp (encodeGroupE so src dst nib) = 0b1111#4
      ∧ fieldSo (encodeGroupE so src dst nib) = so
      ∧ fieldSrc (encodeGroupE so src dst nib) = src
      ∧ fieldDst (encodeGroupE so src dst nib) = dst
      ∧ fieldNib (encodeGroupE so src dst nib) = nib := by
  simp (disch := omega) only [fieldType, fieldOp, fieldSo, fieldSrc, fieldDst, fieldNib, encodeGroupE, extract_append_low,
    extract_append_high, extract_all, Nat.reduceSub, and_self]

theorem encodeGroupE_undefined (so : BitVec 2) (src dst : RegNum) (nib : BitVec 3) : encodeGroupE so src dst nib &&& 0x000007FF#32 = 0#32 := by
  apply BitVec.eq_of_getLsbD_eq
  intro i hi
  simp only [encodeGroupE, BitVec.getLsbD_and, BitVec.getLsbD_append, BitVec.getLsbD_zero]
  interval_cases i <;> simp

theorem encodeType3_fields (sub : BitVec 5) (v : BitVec 2) (s1 dst s2 : RegNum) :
    fieldType (encodeType3 sub v s1 dst s2) = 0b11#2
      ∧ fieldSub (encodeType3 sub v s1 dst s2) = sub
      ∧ fieldV (encodeType3 sub v s1 dst s2) = v
      ∧ fieldSrc (encodeType3 sub v s1 dst s2) = s1
      ∧ fieldDst (encodeType3 sub v s1 dst s2) = dst
      ∧ fieldSrc2 (encodeType3 sub v s1 dst s2) = s2 := by
  simp (disch := omega) only [fieldType, fieldSub, fieldV, fieldSrc, fieldDst, fieldSrc2, encodeType3, extract_append_low,
    extract_append_high, extract_all, Nat.reduceSub, and_self]

theorem encodeType3_undefined (sub : BitVec 5) (v : BitVec 2) (s1 dst s2 : RegNum) : encodeType3 sub v s1 dst s2 &&& 0x3C00000F#32 = 0#32 := by
  apply BitVec.eq_of_getLsbD_eq
  intro i hi
  simp only [encodeType3, BitVec.getLsbD_and, BitVec.getLsbD_append, BitVec.getLsbD_zero]
  interval_cases i <;> simp

end Sys2Proof
end

