-- ==== Sys2Proof/Laws/State.lean ====
section
/-! SUPPORT. One lemma per field of State and update of it. -/

namespace Sys2Proof.Machine

variable (s : State)

/-! ### `setGpr` -/
@[simp] theorem State.params_setGpr (r : RegNum) (g : Gpr) : (s.setGpr r g).params = s.params := rfl
@[simp] theorem State.inputs_setGpr (r : RegNum) (g : Gpr) : (s.setGpr r g).inputs = s.inputs := rfl
@[simp] theorem State.fprs_setGpr (r : RegNum) (g : Gpr) : (s.setGpr r g).fprs = s.fprs := rfl
@[simp] theorem State.pc_setGpr (r : RegNum) (g : Gpr) : (s.setGpr r g).pc = s.pc := rfl
@[simp] theorem State.cfg_setGpr (r : RegNum) (g : Gpr) : (s.setGpr r g).cfg = s.cfg := rfl
@[simp] theorem State.stp_setGpr (r : RegNum) (g : Gpr) : (s.setGpr r g).stp = s.stp := rfl
@[simp] theorem State.mr_setGpr (r : RegNum) (g : Gpr) : (s.setGpr r g).mr = s.mr := rfl
@[simp] theorem State.ir_setGpr (r : RegNum) (g : Gpr) : (s.setGpr r g).ir = s.ir := rfl
@[simp] theorem State.tmr_setGpr (r : RegNum) (g : Gpr) : (s.setGpr r g).tmr = s.tmr := rfl
@[simp] theorem State.pwd_setGpr (r : RegNum) (g : Gpr) : (s.setGpr r g).pwd = s.pwd := rfl
@[simp] theorem State.pwa_setGpr (r : RegNum) (g : Gpr) : (s.setGpr r g).pwa = s.pwa := rfl
@[simp] theorem State.prd_setGpr (r : RegNum) (g : Gpr) : (s.setGpr r g).prd = s.prd := rfl
@[simp] theorem State.pra_setGpr (r : RegNum) (g : Gpr) : (s.setGpr r g).pra = s.pra := rfl
@[simp] theorem State.cr_setGpr (r : RegNum) (g : Gpr) : (s.setGpr r g).cr = s.cr := rfl
@[simp] theorem State.links_setGpr (r : RegNum) (g : Gpr) : (s.setGpr r g).links = s.links := rfl
@[simp] theorem State.esp_setGpr (r : RegNum) (g : Gpr) : (s.setGpr r g).esp = s.esp := rfl
@[simp] theorem State.iack_setGpr (r : RegNum) (g : Gpr) : (s.setGpr r g).iack = s.iack := rfl
@[simp] theorem State.dm_setGpr (r : RegNum) (g : Gpr) : (s.setGpr r g).dm = s.dm := rfl
@[simp] theorem State.im_setGpr (r : RegNum) (g : Gpr) : (s.setGpr r g).im = s.im := rfl
@[simp] theorem State.drawn_setGpr (r : RegNum) (g : Gpr) : (s.setGpr r g).drawn = s.drawn := rfl
@[simp] theorem State.periphOut_setGpr (r : RegNum) (g : Gpr) : (s.setGpr r g).periphOut = s.periphOut := rfl
@[simp] theorem State.lastPc_setGpr (r : RegNum) (g : Gpr) : (s.setGpr r g).lastPc = s.lastPc := rfl

/-! ### `setFpr` -/
@[simp] theorem State.params_setFpr (r : RegNum) (g : Fpr) : (s.setFpr r g).params = s.params := rfl
@[simp] theorem State.inputs_setFpr (r : RegNum) (g : Fpr) : (s.setFpr r g).inputs = s.inputs := rfl
@[simp] theorem State.gprs_setFpr (r : RegNum) (g : Fpr) : (s.setFpr r g).gprs = s.gprs := rfl
@[simp] theorem State.pc_setFpr (r : RegNum) (g : Fpr) : (s.setFpr r g).pc = s.pc := rfl
@[simp] theorem State.cfg_setFpr (r : RegNum) (g : Fpr) : (s.setFpr r g).cfg = s.cfg := rfl
@[simp] theorem State.stp_setFpr (r : RegNum) (g : Fpr) : (s.setFpr r g).stp = s.stp := rfl
@[simp] theorem State.mr_setFpr (r : RegNum) (g : Fpr) : (s.setFpr r g).mr = s.mr := rfl
@[simp] theorem State.ir_setFpr (r : RegNum) (g : Fpr) : (s.setFpr r g).ir = s.ir := rfl
@[simp] theorem State.tmr_setFpr (r : RegNum) (g : Fpr) : (s.setFpr r g).tmr = s.tmr := rfl
@[simp] theorem State.pwd_setFpr (r : RegNum) (g : Fpr) : (s.setFpr r g).pwd = s.pwd := rfl
@[simp] theorem State.pwa_setFpr (r : RegNum) (g : Fpr) : (s.setFpr r g).pwa = s.pwa := rfl
@[simp] theorem State.prd_setFpr (r : RegNum) (g : Fpr) : (s.setFpr r g).prd = s.prd := rfl
@[simp] theorem State.pra_setFpr (r : RegNum) (g : Fpr) : (s.setFpr r g).pra = s.pra := rfl
@[simp] theorem State.cr_setFpr (r : RegNum) (g : Fpr) : (s.setFpr r g).cr = s.cr := rfl
@[simp] theorem State.links_setFpr (r : RegNum) (g : Fpr) : (s.setFpr r g).links = s.links := rfl
@[simp] theorem State.esp_setFpr (r : RegNum) (g : Fpr) : (s.setFpr r g).esp = s.esp := rfl
@[simp] theorem State.iack_setFpr (r : RegNum) (g : Fpr) : (s.setFpr r g).iack = s.iack := rfl
@[simp] theorem State.dm_setFpr (r : RegNum) (g : Fpr) : (s.setFpr r g).dm = s.dm := rfl
@[simp] theorem State.im_setFpr (r : RegNum) (g : Fpr) : (s.setFpr r g).im = s.im := rfl
@[simp] theorem State.drawn_setFpr (r : RegNum) (g : Fpr) : (s.setFpr r g).drawn = s.drawn := rfl
@[simp] theorem State.periphOut_setFpr (r : RegNum) (g : Fpr) : (s.setFpr r g).periphOut = s.periphOut := rfl
@[simp] theorem State.lastPc_setFpr (r : RegNum) (g : Fpr) : (s.setFpr r g).lastPc = s.lastPc := rfl

/-! ### `setReg` -/
@[simp] theorem State.params_setReg (r : RegNum) (v : Word) : (s.setReg r v).params = s.params := rfl
@[simp] theorem State.inputs_setReg (r : RegNum) (v : Word) : (s.setReg r v).inputs = s.inputs := rfl
@[simp] theorem State.fprs_setReg (r : RegNum) (v : Word) : (s.setReg r v).fprs = s.fprs := rfl
@[simp] theorem State.pc_setReg (r : RegNum) (v : Word) : (s.setReg r v).pc = s.pc := rfl
@[simp] theorem State.cfg_setReg (r : RegNum) (v : Word) : (s.setReg r v).cfg = s.cfg := rfl
@[simp] theorem State.stp_setReg (r : RegNum) (v : Word) : (s.setReg r v).stp = s.stp := rfl
@[simp] theorem State.mr_setReg (r : RegNum) (v : Word) : (s.setReg r v).mr = s.mr := rfl
@[simp] theorem State.ir_setReg (r : RegNum) (v : Word) : (s.setReg r v).ir = s.ir := rfl
@[simp] theorem State.tmr_setReg (r : RegNum) (v : Word) : (s.setReg r v).tmr = s.tmr := rfl
@[simp] theorem State.pwd_setReg (r : RegNum) (v : Word) : (s.setReg r v).pwd = s.pwd := rfl
@[simp] theorem State.pwa_setReg (r : RegNum) (v : Word) : (s.setReg r v).pwa = s.pwa := rfl
@[simp] theorem State.prd_setReg (r : RegNum) (v : Word) : (s.setReg r v).prd = s.prd := rfl
@[simp] theorem State.pra_setReg (r : RegNum) (v : Word) : (s.setReg r v).pra = s.pra := rfl
@[simp] theorem State.cr_setReg (r : RegNum) (v : Word) : (s.setReg r v).cr = s.cr := rfl
@[simp] theorem State.links_setReg (r : RegNum) (v : Word) : (s.setReg r v).links = s.links := rfl
@[simp] theorem State.esp_setReg (r : RegNum) (v : Word) : (s.setReg r v).esp = s.esp := rfl
@[simp] theorem State.iack_setReg (r : RegNum) (v : Word) : (s.setReg r v).iack = s.iack := rfl
@[simp] theorem State.dm_setReg (r : RegNum) (v : Word) : (s.setReg r v).dm = s.dm := rfl
@[simp] theorem State.im_setReg (r : RegNum) (v : Word) : (s.setReg r v).im = s.im := rfl
@[simp] theorem State.drawn_setReg (r : RegNum) (v : Word) : (s.setReg r v).drawn = s.drawn := rfl
@[simp] theorem State.periphOut_setReg (r : RegNum) (v : Word) : (s.setReg r v).periphOut = s.periphOut := rfl
@[simp] theorem State.lastPc_setReg (r : RegNum) (v : Word) : (s.setReg r v).lastPc = s.lastPc := rfl

/-! ### `setFreg` -/
@[simp] theorem State.params_setFreg (r : RegNum) (v : Word) : (s.setFreg r v).params = s.params := rfl
@[simp] theorem State.inputs_setFreg (r : RegNum) (v : Word) : (s.setFreg r v).inputs = s.inputs := rfl
@[simp] theorem State.gprs_setFreg (r : RegNum) (v : Word) : (s.setFreg r v).gprs = s.gprs := rfl
@[simp] theorem State.pc_setFreg (r : RegNum) (v : Word) : (s.setFreg r v).pc = s.pc := rfl
@[simp] theorem State.cfg_setFreg (r : RegNum) (v : Word) : (s.setFreg r v).cfg = s.cfg := rfl
@[simp] theorem State.stp_setFreg (r : RegNum) (v : Word) : (s.setFreg r v).stp = s.stp := rfl
@[simp] theorem State.mr_setFreg (r : RegNum) (v : Word) : (s.setFreg r v).mr = s.mr := rfl
@[simp] theorem State.ir_setFreg (r : RegNum) (v : Word) : (s.setFreg r v).ir = s.ir := rfl
@[simp] theorem State.tmr_setFreg (r : RegNum) (v : Word) : (s.setFreg r v).tmr = s.tmr := rfl
@[simp] theorem State.pwd_setFreg (r : RegNum) (v : Word) : (s.setFreg r v).pwd = s.pwd := rfl
@[simp] theorem State.pwa_setFreg (r : RegNum) (v : Word) : (s.setFreg r v).pwa = s.pwa := rfl
@[simp] theorem State.prd_setFreg (r : RegNum) (v : Word) : (s.setFreg r v).prd = s.prd := rfl
@[simp] theorem State.pra_setFreg (r : RegNum) (v : Word) : (s.setFreg r v).pra = s.pra := rfl
@[simp] theorem State.cr_setFreg (r : RegNum) (v : Word) : (s.setFreg r v).cr = s.cr := rfl
@[simp] theorem State.links_setFreg (r : RegNum) (v : Word) : (s.setFreg r v).links = s.links := rfl
@[simp] theorem State.esp_setFreg (r : RegNum) (v : Word) : (s.setFreg r v).esp = s.esp := rfl
@[simp] theorem State.iack_setFreg (r : RegNum) (v : Word) : (s.setFreg r v).iack = s.iack := rfl
@[simp] theorem State.dm_setFreg (r : RegNum) (v : Word) : (s.setFreg r v).dm = s.dm := rfl
@[simp] theorem State.im_setFreg (r : RegNum) (v : Word) : (s.setFreg r v).im = s.im := rfl
@[simp] theorem State.drawn_setFreg (r : RegNum) (v : Word) : (s.setFreg r v).drawn = s.drawn := rfl
@[simp] theorem State.periphOut_setFreg (r : RegNum) (v : Word) : (s.setFreg r v).periphOut = s.periphOut := rfl
@[simp] theorem State.lastPc_setFreg (r : RegNum) (v : Word) : (s.setFreg r v).lastPc = s.lastPc := rfl

/-! ### `draw` -/
@[simp] theorem State.params_draw : (s.draw).params = s.params := rfl
@[simp] theorem State.inputs_draw : (s.draw).inputs = s.inputs := rfl
@[simp] theorem State.gprs_draw : (s.draw).gprs = s.gprs := rfl
@[simp] theorem State.fprs_draw : (s.draw).fprs = s.fprs := rfl
@[simp] theorem State.pc_draw : (s.draw).pc = s.pc := rfl
@[simp] theorem State.cfg_draw : (s.draw).cfg = s.cfg := rfl
@[simp] theorem State.stp_draw : (s.draw).stp = s.stp := rfl
@[simp] theorem State.mr_draw : (s.draw).mr = s.mr := rfl
@[simp] theorem State.ir_draw : (s.draw).ir = s.ir := rfl
@[simp] theorem State.tmr_draw : (s.draw).tmr = s.tmr := rfl
@[simp] theorem State.pwd_draw : (s.draw).pwd = s.pwd := rfl
@[simp] theorem State.pwa_draw : (s.draw).pwa = s.pwa := rfl
@[simp] theorem State.prd_draw : (s.draw).prd = s.prd := rfl
@[simp] theorem State.pra_draw : (s.draw).pra = s.pra := rfl
@[simp] theorem State.cr_draw : (s.draw).cr = s.cr := rfl
@[simp] theorem State.links_draw : (s.draw).links = s.links := rfl
@[simp] theorem State.esp_draw : (s.draw).esp = s.esp := rfl
@[simp] theorem State.iack_draw : (s.draw).iack = s.iack := rfl
@[simp] theorem State.dm_draw : (s.draw).dm = s.dm := rfl
@[simp] theorem State.im_draw : (s.draw).im = s.im := rfl
@[simp] theorem State.drawn_draw : (s.draw).drawn = s.drawn + 1 := rfl
@[simp] theorem State.periphOut_draw : (s.draw).periphOut = s.periphOut := rfl
@[simp] theorem State.lastPc_draw : (s.draw).lastPc = s.lastPc := rfl

/-! ### `advance` -/
@[simp] theorem State.params_advance : (s.advance).params = s.params := rfl
@[simp] theorem State.inputs_advance : (s.advance).inputs = s.inputs := rfl
@[simp] theorem State.gprs_advance : (s.advance).gprs = s.gprs := rfl
@[simp] theorem State.fprs_advance : (s.advance).fprs = s.fprs := rfl
@[simp] theorem State.pc_advance : (s.advance).pc = s.pc + 1#30 := rfl
@[simp] theorem State.cfg_advance : (s.advance).cfg = s.cfg := rfl
@[simp] theorem State.stp_advance : (s.advance).stp = s.stp := rfl
@[simp] theorem State.mr_advance : (s.advance).mr = s.mr := rfl
@[simp] theorem State.ir_advance : (s.advance).ir = s.ir := rfl
@[simp] theorem State.tmr_advance : (s.advance).tmr = s.tmr := rfl
@[simp] theorem State.pwd_advance : (s.advance).pwd = s.pwd := rfl
@[simp] theorem State.pwa_advance : (s.advance).pwa = s.pwa := rfl
@[simp] theorem State.prd_advance : (s.advance).prd = s.prd := rfl
@[simp] theorem State.pra_advance : (s.advance).pra = s.pra := rfl
@[simp] theorem State.cr_advance : (s.advance).cr = s.cr := rfl
@[simp] theorem State.links_advance : (s.advance).links = s.links := rfl
@[simp] theorem State.esp_advance : (s.advance).esp = s.esp := rfl
@[simp] theorem State.iack_advance : (s.advance).iack = s.iack := rfl
@[simp] theorem State.dm_advance : (s.advance).dm = s.dm := rfl
@[simp] theorem State.im_advance : (s.advance).im = s.im := rfl
@[simp] theorem State.drawn_advance : (s.advance).drawn = s.drawn := rfl
@[simp] theorem State.periphOut_advance : (s.advance).periphOut = s.periphOut := rfl
@[simp] theorem State.lastPc_advance : (s.advance).lastPc = s.lastPc := rfl

/-! ### `pend` -/
@[simp] theorem State.params_pend (k : Nat) : (s.pend k).params = s.params := rfl
@[simp] theorem State.inputs_pend (k : Nat) : (s.pend k).inputs = s.inputs := rfl
@[simp] theorem State.gprs_pend (k : Nat) : (s.pend k).gprs = s.gprs := rfl
@[simp] theorem State.fprs_pend (k : Nat) : (s.pend k).fprs = s.fprs := rfl
@[simp] theorem State.pc_pend (k : Nat) : (s.pend k).pc = s.pc := rfl
@[simp] theorem State.cfg_pend (k : Nat) : (s.pend k).cfg = s.cfg := rfl
@[simp] theorem State.stp_pend (k : Nat) : (s.pend k).stp = s.stp := rfl
@[simp] theorem State.mr_pend (k : Nat) : (s.pend k).mr = s.mr := rfl
@[simp] theorem State.ir_pend (k : Nat) : (s.pend k).ir = s.ir := rfl
@[simp] theorem State.tmr_pend (k : Nat) : (s.pend k).tmr = s.tmr := rfl
@[simp] theorem State.pwd_pend (k : Nat) : (s.pend k).pwd = s.pwd := rfl
@[simp] theorem State.pwa_pend (k : Nat) : (s.pend k).pwa = s.pwa := rfl
@[simp] theorem State.prd_pend (k : Nat) : (s.pend k).prd = s.prd := rfl
@[simp] theorem State.pra_pend (k : Nat) : (s.pend k).pra = s.pra := rfl
@[simp] theorem State.cr_pend (k : Nat) : (s.pend k).cr = s.cr ||| (1#32 <<< k) := rfl
@[simp] theorem State.links_pend (k : Nat) : (s.pend k).links = s.links := rfl
@[simp] theorem State.esp_pend (k : Nat) : (s.pend k).esp = s.esp := rfl
@[simp] theorem State.iack_pend (k : Nat) : (s.pend k).iack = s.iack := rfl
@[simp] theorem State.dm_pend (k : Nat) : (s.pend k).dm = s.dm := rfl
@[simp] theorem State.im_pend (k : Nat) : (s.pend k).im = s.im := rfl
@[simp] theorem State.drawn_pend (k : Nat) : (s.pend k).drawn = s.drawn := rfl
@[simp] theorem State.periphOut_pend (k : Nat) : (s.pend k).periphOut = s.periphOut := rfl
@[simp] theorem State.lastPc_pend (k : Nat) : (s.pend k).lastPc = s.lastPc := rfl

/-! ### `raise` -/
@[simp] theorem State.params_raise (k : Nat) : (s.raise k).params = s.params := rfl
@[simp] theorem State.inputs_raise (k : Nat) : (s.raise k).inputs = s.inputs := rfl
@[simp] theorem State.gprs_raise (k : Nat) : (s.raise k).gprs = s.gprs := rfl
@[simp] theorem State.fprs_raise (k : Nat) : (s.raise k).fprs = s.fprs := rfl
@[simp] theorem State.pc_raise (k : Nat) : (s.raise k).pc = s.pc + 1#30 := rfl
@[simp] theorem State.cfg_raise (k : Nat) : (s.raise k).cfg = s.cfg := rfl
@[simp] theorem State.stp_raise (k : Nat) : (s.raise k).stp = s.stp := rfl
@[simp] theorem State.mr_raise (k : Nat) : (s.raise k).mr = s.mr := rfl
@[simp] theorem State.ir_raise (k : Nat) : (s.raise k).ir = s.ir := rfl
@[simp] theorem State.tmr_raise (k : Nat) : (s.raise k).tmr = s.tmr := rfl
@[simp] theorem State.pwd_raise (k : Nat) : (s.raise k).pwd = s.pwd := rfl
@[simp] theorem State.pwa_raise (k : Nat) : (s.raise k).pwa = s.pwa := rfl
@[simp] theorem State.prd_raise (k : Nat) : (s.raise k).prd = s.prd := rfl
@[simp] theorem State.pra_raise (k : Nat) : (s.raise k).pra = s.pra := rfl
@[simp] theorem State.cr_raise (k : Nat) : (s.raise k).cr = s.cr ||| (1#32 <<< k) := rfl
@[simp] theorem State.links_raise (k : Nat) : (s.raise k).links = s.links := rfl
@[simp] theorem State.esp_raise (k : Nat) : (s.raise k).esp = s.esp := rfl
@[simp] theorem State.iack_raise (k : Nat) : (s.raise k).iack = s.iack := rfl
@[simp] theorem State.dm_raise (k : Nat) : (s.raise k).dm = s.dm := rfl
@[simp] theorem State.im_raise (k : Nat) : (s.raise k).im = s.im := rfl
@[simp] theorem State.drawn_raise (k : Nat) : (s.raise k).drawn = s.drawn := rfl
@[simp] theorem State.periphOut_raise (k : Nat) : (s.raise k).periphOut = s.periphOut := rfl
@[simp] theorem State.lastPc_raise (k : Nat) : (s.raise k).lastPc = s.lastPc := rfl

/-! ### `setByte` -/
@[simp] theorem State.params_setByte (a : Word) (b : Byte) : (s.setByte a b).params = s.params := rfl
@[simp] theorem State.inputs_setByte (a : Word) (b : Byte) : (s.setByte a b).inputs = s.inputs := rfl
@[simp] theorem State.gprs_setByte (a : Word) (b : Byte) : (s.setByte a b).gprs = s.gprs := rfl
@[simp] theorem State.fprs_setByte (a : Word) (b : Byte) : (s.setByte a b).fprs = s.fprs := rfl
@[simp] theorem State.pc_setByte (a : Word) (b : Byte) : (s.setByte a b).pc = s.pc := rfl
@[simp] theorem State.cfg_setByte (a : Word) (b : Byte) : (s.setByte a b).cfg = s.cfg := rfl
@[simp] theorem State.stp_setByte (a : Word) (b : Byte) : (s.setByte a b).stp = s.stp := rfl
@[simp] theorem State.mr_setByte (a : Word) (b : Byte) : (s.setByte a b).mr = s.mr := rfl
@[simp] theorem State.ir_setByte (a : Word) (b : Byte) : (s.setByte a b).ir = s.ir := rfl
@[simp] theorem State.tmr_setByte (a : Word) (b : Byte) : (s.setByte a b).tmr = s.tmr := rfl
@[simp] theorem State.pwd_setByte (a : Word) (b : Byte) : (s.setByte a b).pwd = s.pwd := rfl
@[simp] theorem State.pwa_setByte (a : Word) (b : Byte) : (s.setByte a b).pwa = s.pwa := rfl
@[simp] theorem State.prd_setByte (a : Word) (b : Byte) : (s.setByte a b).prd = s.prd := rfl
@[simp] theorem State.pra_setByte (a : Word) (b : Byte) : (s.setByte a b).pra = s.pra := rfl
@[simp] theorem State.cr_setByte (a : Word) (b : Byte) : (s.setByte a b).cr = s.cr := rfl
@[simp] theorem State.links_setByte (a : Word) (b : Byte) : (s.setByte a b).links = s.links := rfl
@[simp] theorem State.esp_setByte (a : Word) (b : Byte) : (s.setByte a b).esp = s.esp := rfl
@[simp] theorem State.iack_setByte (a : Word) (b : Byte) : (s.setByte a b).iack = s.iack := rfl
@[simp] theorem State.dm_setByte (a : Word) (b : Byte) : (s.setByte a b).dm = s.dm.write a.toNat b := rfl
@[simp] theorem State.im_setByte (a : Word) (b : Byte) : (s.setByte a b).im = s.im := rfl
@[simp] theorem State.drawn_setByte (a : Word) (b : Byte) : (s.setByte a b).drawn = s.drawn := rfl
@[simp] theorem State.periphOut_setByte (a : Word) (b : Byte) : (s.setByte a b).periphOut = s.periphOut := rfl
@[simp] theorem State.lastPc_setByte (a : Word) (b : Byte) : (s.setByte a b).lastPc = s.lastPc := rfl

/-! ### `setLink` -/
@[simp] theorem State.params_setLink (j : BitVec 5) (l : Link) : (s.setLink j l).params = s.params := rfl
@[simp] theorem State.inputs_setLink (j : BitVec 5) (l : Link) : (s.setLink j l).inputs = s.inputs := rfl
@[simp] theorem State.gprs_setLink (j : BitVec 5) (l : Link) : (s.setLink j l).gprs = s.gprs := rfl
@[simp] theorem State.fprs_setLink (j : BitVec 5) (l : Link) : (s.setLink j l).fprs = s.fprs := rfl
@[simp] theorem State.pc_setLink (j : BitVec 5) (l : Link) : (s.setLink j l).pc = s.pc := rfl
@[simp] theorem State.cfg_setLink (j : BitVec 5) (l : Link) : (s.setLink j l).cfg = s.cfg := rfl
@[simp] theorem State.stp_setLink (j : BitVec 5) (l : Link) : (s.setLink j l).stp = s.stp := rfl
@[simp] theorem State.mr_setLink (j : BitVec 5) (l : Link) : (s.setLink j l).mr = s.mr := rfl
@[simp] theorem State.ir_setLink (j : BitVec 5) (l : Link) : (s.setLink j l).ir = s.ir := rfl
@[simp] theorem State.tmr_setLink (j : BitVec 5) (l : Link) : (s.setLink j l).tmr = s.tmr := rfl
@[simp] theorem State.pwd_setLink (j : BitVec 5) (l : Link) : (s.setLink j l).pwd = s.pwd := rfl
@[simp] theorem State.pwa_setLink (j : BitVec 5) (l : Link) : (s.setLink j l).pwa = s.pwa := rfl
@[simp] theorem State.prd_setLink (j : BitVec 5) (l : Link) : (s.setLink j l).prd = s.prd := rfl
@[simp] theorem State.pra_setLink (j : BitVec 5) (l : Link) : (s.setLink j l).pra = s.pra := rfl
@[simp] theorem State.cr_setLink (j : BitVec 5) (l : Link) : (s.setLink j l).cr = s.cr := rfl
@[simp] theorem State.esp_setLink (j : BitVec 5) (l : Link) : (s.setLink j l).esp = s.esp := rfl
@[simp] theorem State.iack_setLink (j : BitVec 5) (l : Link) : (s.setLink j l).iack = s.iack := rfl
@[simp] theorem State.dm_setLink (j : BitVec 5) (l : Link) : (s.setLink j l).dm = s.dm := rfl
@[simp] theorem State.im_setLink (j : BitVec 5) (l : Link) : (s.setLink j l).im = s.im := rfl
@[simp] theorem State.drawn_setLink (j : BitVec 5) (l : Link) : (s.setLink j l).drawn = s.drawn := rfl
@[simp] theorem State.periphOut_setLink (j : BitVec 5) (l : Link) : (s.setLink j l).periphOut = s.periphOut := rfl
@[simp] theorem State.lastPc_setLink (j : BitVec 5) (l : Link) : (s.setLink j l).lastPc = s.lastPc := rfl

/-! ### `writeW` -/
@[simp] theorem State.params_writeW (d : RegNum) (o : AluOut 32) : (s.writeW d o).params = s.params := rfl
@[simp] theorem State.inputs_writeW (d : RegNum) (o : AluOut 32) : (s.writeW d o).inputs = s.inputs := rfl
@[simp] theorem State.fprs_writeW (d : RegNum) (o : AluOut 32) : (s.writeW d o).fprs = s.fprs := rfl
@[simp] theorem State.pc_writeW (d : RegNum) (o : AluOut 32) : (s.writeW d o).pc = s.pc := rfl
@[simp] theorem State.cfg_writeW (d : RegNum) (o : AluOut 32) : (s.writeW d o).cfg = s.cfg := rfl
@[simp] theorem State.stp_writeW (d : RegNum) (o : AluOut 32) : (s.writeW d o).stp = s.stp := rfl
@[simp] theorem State.mr_writeW (d : RegNum) (o : AluOut 32) : (s.writeW d o).mr = s.mr := rfl
@[simp] theorem State.ir_writeW (d : RegNum) (o : AluOut 32) : (s.writeW d o).ir = s.ir := rfl
@[simp] theorem State.tmr_writeW (d : RegNum) (o : AluOut 32) : (s.writeW d o).tmr = s.tmr := rfl
@[simp] theorem State.pwd_writeW (d : RegNum) (o : AluOut 32) : (s.writeW d o).pwd = s.pwd := rfl
@[simp] theorem State.pwa_writeW (d : RegNum) (o : AluOut 32) : (s.writeW d o).pwa = s.pwa := rfl
@[simp] theorem State.prd_writeW (d : RegNum) (o : AluOut 32) : (s.writeW d o).prd = s.prd := rfl
@[simp] theorem State.pra_writeW (d : RegNum) (o : AluOut 32) : (s.writeW d o).pra = s.pra := rfl
@[simp] theorem State.cr_writeW (d : RegNum) (o : AluOut 32) : (s.writeW d o).cr = s.cr := rfl
@[simp] theorem State.links_writeW (d : RegNum) (o : AluOut 32) : (s.writeW d o).links = s.links := rfl
@[simp] theorem State.esp_writeW (d : RegNum) (o : AluOut 32) : (s.writeW d o).esp = s.esp := rfl
@[simp] theorem State.iack_writeW (d : RegNum) (o : AluOut 32) : (s.writeW d o).iack = s.iack := rfl
@[simp] theorem State.dm_writeW (d : RegNum) (o : AluOut 32) : (s.writeW d o).dm = s.dm := rfl
@[simp] theorem State.im_writeW (d : RegNum) (o : AluOut 32) : (s.writeW d o).im = s.im := rfl
@[simp] theorem State.drawn_writeW (d : RegNum) (o : AluOut 32) : (s.writeW d o).drawn = s.drawn := rfl
@[simp] theorem State.periphOut_writeW (d : RegNum) (o : AluOut 32) : (s.writeW d o).periphOut = s.periphOut := rfl
@[simp] theorem State.lastPc_writeW (d : RegNum) (o : AluOut 32) : (s.writeW d o).lastPc = s.lastPc := rfl

/-! ### `writeL` -/
@[simp] theorem State.params_writeL (d : RegNum) (o : AluOut 64) : (s.writeL d o).params = s.params := by simp [State.writeL]
@[simp] theorem State.inputs_writeL (d : RegNum) (o : AluOut 64) : (s.writeL d o).inputs = s.inputs := by simp [State.writeL]
@[simp] theorem State.fprs_writeL (d : RegNum) (o : AluOut 64) : (s.writeL d o).fprs = s.fprs := by simp [State.writeL]
@[simp] theorem State.pc_writeL (d : RegNum) (o : AluOut 64) : (s.writeL d o).pc = s.pc := by simp [State.writeL]
@[simp] theorem State.cfg_writeL (d : RegNum) (o : AluOut 64) : (s.writeL d o).cfg = s.cfg := by simp [State.writeL]
@[simp] theorem State.stp_writeL (d : RegNum) (o : AluOut 64) : (s.writeL d o).stp = s.stp := by simp [State.writeL]
@[simp] theorem State.mr_writeL (d : RegNum) (o : AluOut 64) : (s.writeL d o).mr = s.mr := by simp [State.writeL]
@[simp] theorem State.ir_writeL (d : RegNum) (o : AluOut 64) : (s.writeL d o).ir = s.ir := by simp [State.writeL]
@[simp] theorem State.tmr_writeL (d : RegNum) (o : AluOut 64) : (s.writeL d o).tmr = s.tmr := by simp [State.writeL]
@[simp] theorem State.pwd_writeL (d : RegNum) (o : AluOut 64) : (s.writeL d o).pwd = s.pwd := by simp [State.writeL]
@[simp] theorem State.pwa_writeL (d : RegNum) (o : AluOut 64) : (s.writeL d o).pwa = s.pwa := by simp [State.writeL]
@[simp] theorem State.prd_writeL (d : RegNum) (o : AluOut 64) : (s.writeL d o).prd = s.prd := by simp [State.writeL]
@[simp] theorem State.pra_writeL (d : RegNum) (o : AluOut 64) : (s.writeL d o).pra = s.pra := by simp [State.writeL]
@[simp] theorem State.cr_writeL (d : RegNum) (o : AluOut 64) : (s.writeL d o).cr = s.cr := by simp [State.writeL]
@[simp] theorem State.links_writeL (d : RegNum) (o : AluOut 64) : (s.writeL d o).links = s.links := by simp [State.writeL]
@[simp] theorem State.esp_writeL (d : RegNum) (o : AluOut 64) : (s.writeL d o).esp = s.esp := by simp [State.writeL]
@[simp] theorem State.iack_writeL (d : RegNum) (o : AluOut 64) : (s.writeL d o).iack = s.iack := by simp [State.writeL]
@[simp] theorem State.dm_writeL (d : RegNum) (o : AluOut 64) : (s.writeL d o).dm = s.dm := by simp [State.writeL]
@[simp] theorem State.im_writeL (d : RegNum) (o : AluOut 64) : (s.writeL d o).im = s.im := by simp [State.writeL]
@[simp] theorem State.drawn_writeL (d : RegNum) (o : AluOut 64) : (s.writeL d o).drawn = s.drawn + 1 := by simp [State.writeL]
@[simp] theorem State.periphOut_writeL (d : RegNum) (o : AluOut 64) : (s.writeL d o).periphOut = s.periphOut := by simp [State.writeL]
@[simp] theorem State.lastPc_writeL (d : RegNum) (o : AluOut 64) : (s.writeL d o).lastPc = s.lastPc := by simp [State.writeL]

/-! ### `writeF` -/
@[simp] theorem State.params_writeF (d : RegNum) (o : FpOut 32) : (s.writeF d o).params = s.params := rfl
@[simp] theorem State.inputs_writeF (d : RegNum) (o : FpOut 32) : (s.writeF d o).inputs = s.inputs := rfl
@[simp] theorem State.gprs_writeF (d : RegNum) (o : FpOut 32) : (s.writeF d o).gprs = s.gprs := rfl
@[simp] theorem State.pc_writeF (d : RegNum) (o : FpOut 32) : (s.writeF d o).pc = s.pc := rfl
@[simp] theorem State.cfg_writeF (d : RegNum) (o : FpOut 32) : (s.writeF d o).cfg = s.cfg := rfl
@[simp] theorem State.stp_writeF (d : RegNum) (o : FpOut 32) : (s.writeF d o).stp = s.stp := rfl
@[simp] theorem State.mr_writeF (d : RegNum) (o : FpOut 32) : (s.writeF d o).mr = s.mr := rfl
@[simp] theorem State.ir_writeF (d : RegNum) (o : FpOut 32) : (s.writeF d o).ir = s.ir := rfl
@[simp] theorem State.tmr_writeF (d : RegNum) (o : FpOut 32) : (s.writeF d o).tmr = s.tmr := rfl
@[simp] theorem State.pwd_writeF (d : RegNum) (o : FpOut 32) : (s.writeF d o).pwd = s.pwd := rfl
@[simp] theorem State.pwa_writeF (d : RegNum) (o : FpOut 32) : (s.writeF d o).pwa = s.pwa := rfl
@[simp] theorem State.prd_writeF (d : RegNum) (o : FpOut 32) : (s.writeF d o).prd = s.prd := rfl
@[simp] theorem State.pra_writeF (d : RegNum) (o : FpOut 32) : (s.writeF d o).pra = s.pra := rfl
@[simp] theorem State.cr_writeF (d : RegNum) (o : FpOut 32) : (s.writeF d o).cr = s.cr := rfl
@[simp] theorem State.links_writeF (d : RegNum) (o : FpOut 32) : (s.writeF d o).links = s.links := rfl
@[simp] theorem State.esp_writeF (d : RegNum) (o : FpOut 32) : (s.writeF d o).esp = s.esp := rfl
@[simp] theorem State.iack_writeF (d : RegNum) (o : FpOut 32) : (s.writeF d o).iack = s.iack := rfl
@[simp] theorem State.dm_writeF (d : RegNum) (o : FpOut 32) : (s.writeF d o).dm = s.dm := rfl
@[simp] theorem State.im_writeF (d : RegNum) (o : FpOut 32) : (s.writeF d o).im = s.im := rfl
@[simp] theorem State.drawn_writeF (d : RegNum) (o : FpOut 32) : (s.writeF d o).drawn = s.drawn := rfl
@[simp] theorem State.periphOut_writeF (d : RegNum) (o : FpOut 32) : (s.writeF d o).periphOut = s.periphOut := rfl
@[simp] theorem State.lastPc_writeF (d : RegNum) (o : FpOut 32) : (s.writeF d o).lastPc = s.lastPc := rfl

/-! ### `writeD` -/
@[simp] theorem State.params_writeD (d : RegNum) (o : FpOut 64) : (s.writeD d o).params = s.params := by simp [State.writeD]
@[simp] theorem State.inputs_writeD (d : RegNum) (o : FpOut 64) : (s.writeD d o).inputs = s.inputs := by simp [State.writeD]
@[simp] theorem State.gprs_writeD (d : RegNum) (o : FpOut 64) : (s.writeD d o).gprs = s.gprs := by simp [State.writeD]
@[simp] theorem State.pc_writeD (d : RegNum) (o : FpOut 64) : (s.writeD d o).pc = s.pc := by simp [State.writeD]
@[simp] theorem State.cfg_writeD (d : RegNum) (o : FpOut 64) : (s.writeD d o).cfg = s.cfg := by simp [State.writeD]
@[simp] theorem State.stp_writeD (d : RegNum) (o : FpOut 64) : (s.writeD d o).stp = s.stp := by simp [State.writeD]
@[simp] theorem State.mr_writeD (d : RegNum) (o : FpOut 64) : (s.writeD d o).mr = s.mr := by simp [State.writeD]
@[simp] theorem State.ir_writeD (d : RegNum) (o : FpOut 64) : (s.writeD d o).ir = s.ir := by simp [State.writeD]
@[simp] theorem State.tmr_writeD (d : RegNum) (o : FpOut 64) : (s.writeD d o).tmr = s.tmr := by simp [State.writeD]
@[simp] theorem State.pwd_writeD (d : RegNum) (o : FpOut 64) : (s.writeD d o).pwd = s.pwd := by simp [State.writeD]
@[simp] theorem State.pwa_writeD (d : RegNum) (o : FpOut 64) : (s.writeD d o).pwa = s.pwa := by simp [State.writeD]
@[simp] theorem State.prd_writeD (d : RegNum) (o : FpOut 64) : (s.writeD d o).prd = s.prd := by simp [State.writeD]
@[simp] theorem State.pra_writeD (d : RegNum) (o : FpOut 64) : (s.writeD d o).pra = s.pra := by simp [State.writeD]
@[simp] theorem State.cr_writeD (d : RegNum) (o : FpOut 64) : (s.writeD d o).cr = s.cr := by simp [State.writeD]
@[simp] theorem State.links_writeD (d : RegNum) (o : FpOut 64) : (s.writeD d o).links = s.links := by simp [State.writeD]
@[simp] theorem State.esp_writeD (d : RegNum) (o : FpOut 64) : (s.writeD d o).esp = s.esp := by simp [State.writeD]
@[simp] theorem State.iack_writeD (d : RegNum) (o : FpOut 64) : (s.writeD d o).iack = s.iack := by simp [State.writeD]
@[simp] theorem State.dm_writeD (d : RegNum) (o : FpOut 64) : (s.writeD d o).dm = s.dm := by simp [State.writeD]
@[simp] theorem State.im_writeD (d : RegNum) (o : FpOut 64) : (s.writeD d o).im = s.im := by simp [State.writeD]
@[simp] theorem State.drawn_writeD (d : RegNum) (o : FpOut 64) : (s.writeD d o).drawn = s.drawn + 1 := by simp [State.writeD]
@[simp] theorem State.periphOut_writeD (d : RegNum) (o : FpOut 64) : (s.writeD d o).periphOut = s.periphOut := by simp [State.writeD]
@[simp] theorem State.lastPc_writeD (d : RegNum) (o : FpOut 64) : (s.writeD d o).lastPc = s.lastPc := by simp [State.writeD]

/-! ### `memWrite1` -/
@[simp] theorem State.params_memWrite1 (a : Word) (v : Byte) : (s.memWrite1 a v).params = s.params := by simp [State.memWrite1]
@[simp] theorem State.inputs_memWrite1 (a : Word) (v : Byte) : (s.memWrite1 a v).inputs = s.inputs := by simp [State.memWrite1]
@[simp] theorem State.gprs_memWrite1 (a : Word) (v : Byte) : (s.memWrite1 a v).gprs = s.gprs := by simp [State.memWrite1]
@[simp] theorem State.fprs_memWrite1 (a : Word) (v : Byte) : (s.memWrite1 a v).fprs = s.fprs := by simp [State.memWrite1]
@[simp] theorem State.pc_memWrite1 (a : Word) (v : Byte) : (s.memWrite1 a v).pc = s.pc := by simp [State.memWrite1]
@[simp] theorem State.cfg_memWrite1 (a : Word) (v : Byte) : (s.memWrite1 a v).cfg = s.cfg := by simp [State.memWrite1]
@[simp] theorem State.stp_memWrite1 (a : Word) (v : Byte) : (s.memWrite1 a v).stp = s.stp := by simp [State.memWrite1]
@[simp] theorem State.mr_memWrite1 (a : Word) (v : Byte) : (s.memWrite1 a v).mr = s.mr := by simp [State.memWrite1]
@[simp] theorem State.ir_memWrite1 (a : Word) (v : Byte) : (s.memWrite1 a v).ir = s.ir := by simp [State.memWrite1]
@[simp] theorem State.tmr_memWrite1 (a : Word) (v : Byte) : (s.memWrite1 a v).tmr = s.tmr := by simp [State.memWrite1]
@[simp] theorem State.pwd_memWrite1 (a : Word) (v : Byte) : (s.memWrite1 a v).pwd = s.pwd := by simp [State.memWrite1]
@[simp] theorem State.pwa_memWrite1 (a : Word) (v : Byte) : (s.memWrite1 a v).pwa = s.pwa := by simp [State.memWrite1]
@[simp] theorem State.prd_memWrite1 (a : Word) (v : Byte) : (s.memWrite1 a v).prd = s.prd := by simp [State.memWrite1]
@[simp] theorem State.pra_memWrite1 (a : Word) (v : Byte) : (s.memWrite1 a v).pra = s.pra := by simp [State.memWrite1]
@[simp] theorem State.cr_memWrite1 (a : Word) (v : Byte) : (s.memWrite1 a v).cr = s.cr := by simp [State.memWrite1]
@[simp] theorem State.links_memWrite1 (a : Word) (v : Byte) : (s.memWrite1 a v).links = s.links := by simp [State.memWrite1]
@[simp] theorem State.esp_memWrite1 (a : Word) (v : Byte) : (s.memWrite1 a v).esp = s.esp := by simp [State.memWrite1]
@[simp] theorem State.iack_memWrite1 (a : Word) (v : Byte) : (s.memWrite1 a v).iack = s.iack := by simp [State.memWrite1]
@[simp] theorem State.im_memWrite1 (a : Word) (v : Byte) : (s.memWrite1 a v).im = s.im := by simp [State.memWrite1]
@[simp] theorem State.drawn_memWrite1 (a : Word) (v : Byte) : (s.memWrite1 a v).drawn = s.drawn := by simp [State.memWrite1]
@[simp] theorem State.periphOut_memWrite1 (a : Word) (v : Byte) : (s.memWrite1 a v).periphOut = s.periphOut := by simp [State.memWrite1]
@[simp] theorem State.lastPc_memWrite1 (a : Word) (v : Byte) : (s.memWrite1 a v).lastPc = s.lastPc := by simp [State.memWrite1]

/-! ### `memWrite2` -/
@[simp] theorem State.params_memWrite2 (a : Word) (v : BitVec 16) : (s.memWrite2 a v).params = s.params := by simp [State.memWrite2]
@[simp] theorem State.inputs_memWrite2 (a : Word) (v : BitVec 16) : (s.memWrite2 a v).inputs = s.inputs := by simp [State.memWrite2]
@[simp] theorem State.gprs_memWrite2 (a : Word) (v : BitVec 16) : (s.memWrite2 a v).gprs = s.gprs := by simp [State.memWrite2]
@[simp] theorem State.fprs_memWrite2 (a : Word) (v : BitVec 16) : (s.memWrite2 a v).fprs = s.fprs := by simp [State.memWrite2]
@[simp] theorem State.pc_memWrite2 (a : Word) (v : BitVec 16) : (s.memWrite2 a v).pc = s.pc := by simp [State.memWrite2]
@[simp] theorem State.cfg_memWrite2 (a : Word) (v : BitVec 16) : (s.memWrite2 a v).cfg = s.cfg := by simp [State.memWrite2]
@[simp] theorem State.stp_memWrite2 (a : Word) (v : BitVec 16) : (s.memWrite2 a v).stp = s.stp := by simp [State.memWrite2]
@[simp] theorem State.mr_memWrite2 (a : Word) (v : BitVec 16) : (s.memWrite2 a v).mr = s.mr := by simp [State.memWrite2]
@[simp] theorem State.ir_memWrite2 (a : Word) (v : BitVec 16) : (s.memWrite2 a v).ir = s.ir := by simp [State.memWrite2]
@[simp] theorem State.tmr_memWrite2 (a : Word) (v : BitVec 16) : (s.memWrite2 a v).tmr = s.tmr := by simp [State.memWrite2]
@[simp] theorem State.pwd_memWrite2 (a : Word) (v : BitVec 16) : (s.memWrite2 a v).pwd = s.pwd := by simp [State.memWrite2]
@[simp] theorem State.pwa_memWrite2 (a : Word) (v : BitVec 16) : (s.memWrite2 a v).pwa = s.pwa := by simp [State.memWrite2]
@[simp] theorem State.prd_memWrite2 (a : Word) (v : BitVec 16) : (s.memWrite2 a v).prd = s.prd := by simp [State.memWrite2]
@[simp] theorem State.pra_memWrite2 (a : Word) (v : BitVec 16) : (s.memWrite2 a v).pra = s.pra := by simp [State.memWrite2]
@[simp] theorem State.cr_memWrite2 (a : Word) (v : BitVec 16) : (s.memWrite2 a v).cr = s.cr := by simp [State.memWrite2]
@[simp] theorem State.links_memWrite2 (a : Word) (v : BitVec 16) : (s.memWrite2 a v).links = s.links := by simp [State.memWrite2]
@[simp] theorem State.esp_memWrite2 (a : Word) (v : BitVec 16) : (s.memWrite2 a v).esp = s.esp := by simp [State.memWrite2]
@[simp] theorem State.iack_memWrite2 (a : Word) (v : BitVec 16) : (s.memWrite2 a v).iack = s.iack := by simp [State.memWrite2]
@[simp] theorem State.im_memWrite2 (a : Word) (v : BitVec 16) : (s.memWrite2 a v).im = s.im := by simp [State.memWrite2]
@[simp] theorem State.drawn_memWrite2 (a : Word) (v : BitVec 16) : (s.memWrite2 a v).drawn = s.drawn := by simp [State.memWrite2]
@[simp] theorem State.periphOut_memWrite2 (a : Word) (v : BitVec 16) : (s.memWrite2 a v).periphOut = s.periphOut := by simp [State.memWrite2]
@[simp] theorem State.lastPc_memWrite2 (a : Word) (v : BitVec 16) : (s.memWrite2 a v).lastPc = s.lastPc := by simp [State.memWrite2]

/-! ### `memWrite4` -/
@[simp] theorem State.params_memWrite4 (a : Word) (v : Word) : (s.memWrite4 a v).params = s.params := by simp [State.memWrite4]
@[simp] theorem State.inputs_memWrite4 (a : Word) (v : Word) : (s.memWrite4 a v).inputs = s.inputs := by simp [State.memWrite4]
@[simp] theorem State.gprs_memWrite4 (a : Word) (v : Word) : (s.memWrite4 a v).gprs = s.gprs := by simp [State.memWrite4]
@[simp] theorem State.fprs_memWrite4 (a : Word) (v : Word) : (s.memWrite4 a v).fprs = s.fprs := by simp [State.memWrite4]
@[simp] theorem State.pc_memWrite4 (a : Word) (v : Word) : (s.memWrite4 a v).pc = s.pc := by simp [State.memWrite4]
@[simp] theorem State.cfg_memWrite4 (a : Word) (v : Word) : (s.memWrite4 a v).cfg = s.cfg := by simp [State.memWrite4]
@[simp] theorem State.stp_memWrite4 (a : Word) (v : Word) : (s.memWrite4 a v).stp = s.stp := by simp [State.memWrite4]
@[simp] theorem State.mr_memWrite4 (a : Word) (v : Word) : (s.memWrite4 a v).mr = s.mr := by simp [State.memWrite4]
@[simp] theorem State.ir_memWrite4 (a : Word) (v : Word) : (s.memWrite4 a v).ir = s.ir := by simp [State.memWrite4]
@[simp] theorem State.tmr_memWrite4 (a : Word) (v : Word) : (s.memWrite4 a v).tmr = s.tmr := by simp [State.memWrite4]
@[simp] theorem State.pwd_memWrite4 (a : Word) (v : Word) : (s.memWrite4 a v).pwd = s.pwd := by simp [State.memWrite4]
@[simp] theorem State.pwa_memWrite4 (a : Word) (v : Word) : (s.memWrite4 a v).pwa = s.pwa := by simp [State.memWrite4]
@[simp] theorem State.prd_memWrite4 (a : Word) (v : Word) : (s.memWrite4 a v).prd = s.prd := by simp [State.memWrite4]
@[simp] theorem State.pra_memWrite4 (a : Word) (v : Word) : (s.memWrite4 a v).pra = s.pra := by simp [State.memWrite4]
@[simp] theorem State.cr_memWrite4 (a : Word) (v : Word) : (s.memWrite4 a v).cr = s.cr := by simp [State.memWrite4]
@[simp] theorem State.links_memWrite4 (a : Word) (v : Word) : (s.memWrite4 a v).links = s.links := by simp [State.memWrite4]
@[simp] theorem State.esp_memWrite4 (a : Word) (v : Word) : (s.memWrite4 a v).esp = s.esp := by simp [State.memWrite4]
@[simp] theorem State.iack_memWrite4 (a : Word) (v : Word) : (s.memWrite4 a v).iack = s.iack := by simp [State.memWrite4]
@[simp] theorem State.im_memWrite4 (a : Word) (v : Word) : (s.memWrite4 a v).im = s.im := by simp [State.memWrite4]
@[simp] theorem State.drawn_memWrite4 (a : Word) (v : Word) : (s.memWrite4 a v).drawn = s.drawn := by simp [State.memWrite4]
@[simp] theorem State.periphOut_memWrite4 (a : Word) (v : Word) : (s.memWrite4 a v).periphOut = s.periphOut := by simp [State.memWrite4]
@[simp] theorem State.lastPc_memWrite4 (a : Word) (v : Word) : (s.memWrite4 a v).lastPc = s.lastPc := by simp [State.memWrite4]

/-! ### `post` -/
@[simp] theorem State.params_post (a d : Word) : (s.post a d).params = s.params := rfl
@[simp] theorem State.inputs_post (a d : Word) : (s.post a d).inputs = s.inputs := rfl
@[simp] theorem State.gprs_post (a d : Word) : (s.post a d).gprs = s.gprs := rfl
@[simp] theorem State.fprs_post (a d : Word) : (s.post a d).fprs = s.fprs := rfl
@[simp] theorem State.pc_post (a d : Word) : (s.post a d).pc = s.pc := rfl
@[simp] theorem State.cfg_post (a d : Word) : (s.post a d).cfg = s.cfg := rfl
@[simp] theorem State.stp_post (a d : Word) : (s.post a d).stp = s.stp := rfl
@[simp] theorem State.mr_post (a d : Word) : (s.post a d).mr = s.mr := rfl
@[simp] theorem State.ir_post (a d : Word) : (s.post a d).ir = s.ir := rfl
@[simp] theorem State.tmr_post (a d : Word) : (s.post a d).tmr = s.tmr := rfl
@[simp] theorem State.pwd_post (a d : Word) : (s.post a d).pwd = s.pwd := rfl
@[simp] theorem State.pwa_post (a d : Word) : (s.post a d).pwa = s.pwa := rfl
@[simp] theorem State.prd_post (a d : Word) : (s.post a d).prd = d := rfl
@[simp] theorem State.pra_post (a d : Word) : (s.post a d).pra = a := rfl
@[simp] theorem State.cr_post (a d : Word) : (s.post a d).cr = s.cr := rfl
@[simp] theorem State.links_post (a d : Word) : (s.post a d).links = s.links := rfl
@[simp] theorem State.esp_post (a d : Word) : (s.post a d).esp = s.esp := rfl
@[simp] theorem State.iack_post (a d : Word) : (s.post a d).iack = s.iack := rfl
@[simp] theorem State.dm_post (a d : Word) : (s.post a d).dm = s.dm := rfl
@[simp] theorem State.im_post (a d : Word) : (s.post a d).im = s.im := rfl
@[simp] theorem State.drawn_post (a d : Word) : (s.post a d).drawn = s.drawn := rfl
@[simp] theorem State.periphOut_post (a d : Word) : (s.post a d).periphOut = s.periphOut := rfl
@[simp] theorem State.lastPc_post (a d : Word) : (s.post a d).lastPc = s.lastPc := rfl

/-! ### `irqRaise` -/
@[simp] theorem State.params_irqRaise : (s.irqRaise).params = s.params := rfl
@[simp] theorem State.inputs_irqRaise : (s.irqRaise).inputs = s.inputs := rfl
@[simp] theorem State.gprs_irqRaise : (s.irqRaise).gprs = s.gprs := rfl
@[simp] theorem State.fprs_irqRaise : (s.irqRaise).fprs = s.fprs := rfl
@[simp] theorem State.pc_irqRaise : (s.irqRaise).pc = s.pc := rfl
@[simp] theorem State.cfg_irqRaise : (s.irqRaise).cfg = s.cfg := rfl
@[simp] theorem State.stp_irqRaise : (s.irqRaise).stp = s.stp := rfl
@[simp] theorem State.mr_irqRaise : (s.irqRaise).mr = s.mr := rfl
@[simp] theorem State.ir_irqRaise : (s.irqRaise).ir = s.ir := rfl
@[simp] theorem State.tmr_irqRaise : (s.irqRaise).tmr = s.tmr := rfl
@[simp] theorem State.pwd_irqRaise : (s.irqRaise).pwd = s.pwd := rfl
@[simp] theorem State.pwa_irqRaise : (s.irqRaise).pwa = s.pwa := rfl
@[simp] theorem State.prd_irqRaise : (s.irqRaise).prd = s.prd := rfl
@[simp] theorem State.pra_irqRaise : (s.irqRaise).pra = s.pra := rfl
@[simp] theorem State.cr_irqRaise : (s.irqRaise).cr = s.cr ||| (1#32 <<< 30) := rfl
@[simp] theorem State.links_irqRaise : (s.irqRaise).links = s.links := rfl
@[simp] theorem State.esp_irqRaise : (s.irqRaise).esp = s.esp := rfl
@[simp] theorem State.iack_irqRaise : (s.irqRaise).iack = false := rfl
@[simp] theorem State.dm_irqRaise : (s.irqRaise).dm = s.dm := rfl
@[simp] theorem State.im_irqRaise : (s.irqRaise).im = s.im := rfl
@[simp] theorem State.drawn_irqRaise : (s.irqRaise).drawn = s.drawn := rfl
@[simp] theorem State.periphOut_irqRaise : (s.irqRaise).periphOut = s.periphOut := rfl
@[simp] theorem State.lastPc_irqRaise : (s.irqRaise).lastPc = s.lastPc := rfl

/-! ### `fetched` -/
@[simp] theorem State.params_fetched (w : Word) : (s.fetched w).params = s.params := rfl
@[simp] theorem State.inputs_fetched (w : Word) : (s.fetched w).inputs = s.inputs := rfl
@[simp] theorem State.gprs_fetched (w : Word) : (s.fetched w).gprs = s.gprs := rfl
@[simp] theorem State.fprs_fetched (w : Word) : (s.fetched w).fprs = s.fprs := rfl
@[simp] theorem State.pc_fetched (w : Word) : (s.fetched w).pc = s.pc := rfl
@[simp] theorem State.cfg_fetched (w : Word) : (s.fetched w).cfg = s.cfg := rfl
@[simp] theorem State.stp_fetched (w : Word) : (s.fetched w).stp = s.stp := rfl
@[simp] theorem State.mr_fetched (w : Word) : (s.fetched w).mr = s.mr := rfl
@[simp] theorem State.tmr_fetched (w : Word) : (s.fetched w).tmr = s.tmr := rfl
@[simp] theorem State.pwd_fetched (w : Word) : (s.fetched w).pwd = s.pwd := rfl
@[simp] theorem State.pwa_fetched (w : Word) : (s.fetched w).pwa = s.pwa := rfl
@[simp] theorem State.prd_fetched (w : Word) : (s.fetched w).prd = s.prd := rfl
@[simp] theorem State.pra_fetched (w : Word) : (s.fetched w).pra = s.pra := rfl
@[simp] theorem State.cr_fetched (w : Word) : (s.fetched w).cr = s.cr := rfl
@[simp] theorem State.links_fetched (w : Word) : (s.fetched w).links = s.links := rfl
@[simp] theorem State.esp_fetched (w : Word) : (s.fetched w).esp = s.esp := rfl
@[simp] theorem State.iack_fetched (w : Word) : (s.fetched w).iack = s.iack := rfl
@[simp] theorem State.dm_fetched (w : Word) : (s.fetched w).dm = s.dm := rfl
@[simp] theorem State.im_fetched (w : Word) : (s.fetched w).im = s.im := rfl
@[simp] theorem State.drawn_fetched (w : Word) : (s.fetched w).drawn = s.drawn := rfl
@[simp] theorem State.periphOut_fetched (w : Word) : (s.fetched w).periphOut = s.periphOut := rfl
@[simp] theorem State.ir_fetched (w : Word) : (s.fetched w).ir = w := rfl
@[simp] theorem State.lastPc_fetched (w : Word) : (s.fetched w).lastPc = s.pc := rfl
@[simp] theorem State.codeWord_fetched (w : Word) (p : WordIdx) : (s.fetched w).codeWord p = s.codeWord p := rfl

end Sys2Proof.Machine
end

