-- ==== Sys2Proof/Laws/Registers.lean ====
section
/-! SUPPORT. Reading a register after a write. -/

namespace Sys2Proof.Machine

variable (s : State)

@[simp] theorem State.gpr_setGpr (d r : RegNum) (g : Gpr) :
    (s.setGpr d g).gpr r = if r = d then g else s.gpr r := by
  simp only [State.gpr, State.setGpr, Vector.getElem_set, BitVec.toNat_inj, eq_comm]

@[simp] theorem State.fpr_setFpr (d r : RegNum) (g : Fpr) :
    (s.setFpr d g).fpr r = if r = d then g else s.fpr r := by
  simp only [State.fpr, State.setFpr, Vector.getElem_set, BitVec.toNat_inj, eq_comm]

@[simp] theorem State.link_setLink (j i : BitVec 5) (l : Link) :
    (s.setLink j l).link i = if i = j then l else s.link i := by
  simp only [State.link, State.setLink, Vector.getElem_set, BitVec.toNat_inj, eq_comm]

/-- A state with the same GPRs has the same GPR of each number. -/
theorem State.gpr_congr {s t : State} (h : t.gprs = s.gprs) (r : RegNum) : t.gpr r = s.gpr r := by
  simp only [State.gpr, h]

theorem State.fpr_congr {s t : State} (h : t.fprs = s.fprs) (r : RegNum) : t.fpr r = s.fpr r := by
  simp only [State.fpr, h]

theorem State.link_congr {s t : State} (h : t.links = s.links) (j : BitVec 5) : t.link j = s.link j := by
  simp only [State.link, h]

theorem State.byteAt_congr {s t : State} (h : t.dm = s.dm) (a : Word) : t.byteAt a = s.byteAt a := by
  simp only [State.byteAt, h]

@[simp] theorem State.gpr_setFpr (d r : RegNum) (g : Fpr) : (s.setFpr d g).gpr r = s.gpr r := rfl
@[simp] theorem State.fpr_setGpr (d r : RegNum) (g : Gpr) : (s.setGpr d g).fpr r = s.fpr r := rfl
@[simp] theorem State.gpr_advance (r : RegNum) : s.advance.gpr r = s.gpr r := rfl
@[simp] theorem State.fpr_advance (r : RegNum) : s.advance.fpr r = s.fpr r := rfl
@[simp] theorem State.gpr_draw (r : RegNum) : s.draw.gpr r = s.gpr r := rfl
@[simp] theorem State.fpr_draw (r : RegNum) : s.draw.fpr r = s.fpr r := rfl
@[simp] theorem State.gpr_pend (k : Nat) (r : RegNum) : (s.pend k).gpr r = s.gpr r := rfl
@[simp] theorem State.fpr_pend (k : Nat) (r : RegNum) : (s.pend k).fpr r = s.fpr r := rfl
@[simp] theorem State.gpr_raise (k : Nat) (r : RegNum) : (s.raise k).gpr r = s.gpr r := rfl
@[simp] theorem State.fpr_raise (k : Nat) (r : RegNum) : (s.raise k).fpr r = s.fpr r := rfl
@[simp] theorem State.gpr_setByte (a : Word) (b : Byte) (r : RegNum) : (s.setByte a b).gpr r = s.gpr r := rfl
@[simp] theorem State.fpr_setByte (a : Word) (b : Byte) (r : RegNum) : (s.setByte a b).fpr r = s.fpr r := rfl

@[simp] theorem State.gpr_setReg (d r : RegNum) (v : Word) :
    (s.setReg d v).gpr r = if r = d then { s.gpr d with val := v } else s.gpr r := by
  simp [State.setReg]

@[simp] theorem State.fpr_setFreg (d r : RegNum) (v : Word) :
    (s.setFreg d v).fpr r = if r = d then { s.fpr d with val := v } else s.fpr r := by
  simp [State.setFreg]

@[simp] theorem State.fpr_setReg (d r : RegNum) (v : Word) : (s.setReg d v).fpr r = s.fpr r := rfl
@[simp] theorem State.gpr_setFreg (d r : RegNum) (v : Word) : (s.setFreg d v).gpr r = s.gpr r := rfl

@[simp] theorem State.gpr_writeW (d r : RegNum) (o : AluOut 32) :
    (s.writeW d o).gpr r = if r = d then ⟨o.res, o.c, o.v, o.z⟩ else s.gpr r := by
  simp [State.writeW]

@[simp] theorem State.fpr_writeW (d r : RegNum) (o : AluOut 32) : (s.writeW d o).fpr r = s.fpr r := rfl

@[simp] theorem State.fpr_writeF (d r : RegNum) (o : FpOut 32) :
    (s.writeF d o).fpr r = if r = d then ⟨o.res, o.a, o.i, o.z⟩ else s.fpr r := by
  simp [State.writeF]

@[simp] theorem State.gpr_writeF (d r : RegNum) (o : FpOut 32) : (s.writeF d o).gpr r = s.gpr r := rfl

/-- An even register is not the odd one of its pair. -/
theorem pair_ne (d : RegNum) : d ≠ d + 1#5 := by
  intro h
  have := congrArg BitVec.toNat h
  simp [BitVec.toNat_add] at this
  omega

/-- A 64-bit write-back: the odd register, the even register, every other (spec/10_state.md R25). -/
@[simp] theorem State.gpr_writeL (d r : RegNum) (o : AluOut 64) :
    (s.writeL d o).gpr r =
      if r = d + 1#5 then ⟨o.res.extractLsb' 32 32, o.c, o.v, o.z⟩
      else if r = d then
        ⟨o.res.extractLsb' 0 32, (Config.unspecFlags s.drawn).getLsbD 2, (Config.unspecFlags s.drawn).getLsbD 1,
          (Config.unspecFlags s.drawn).getLsbD 0⟩
      else s.gpr r := by
  simp [State.writeL]

@[simp] theorem State.fpr_writeL (d r : RegNum) (o : AluOut 64) : (s.writeL d o).fpr r = s.fpr r := by
  simp [State.writeL]

/-- A double write-back (R28). -/
@[simp] theorem State.fpr_writeD (d r : RegNum) (o : FpOut 64) :
    (s.writeD d o).fpr r =
      if r = d + 1#5 then ⟨o.res.extractLsb' 32 32, o.a, o.i, o.z⟩
      else if r = d then
        ⟨o.res.extractLsb' 0 32, (Config.unspecFlags s.drawn).getLsbD 2, (Config.unspecFlags s.drawn).getLsbD 1,
          (Config.unspecFlags s.drawn).getLsbD 0⟩
      else s.fpr r := by
  simp [State.writeD]

@[simp] theorem State.gpr_writeD (d r : RegNum) (o : FpOut 64) : (s.writeD d o).gpr r = s.gpr r := by
  simp [State.writeD]

end Sys2Proof.Machine
end

