-- ==== Sys2Proof/Laws/Memory.lean ====
section
/-! SUPPORT. Memory: reading after writing, and the canonical form (spec/20_memory.md R84, R85). -/

namespace Sys2Proof.Machine

theorem readCells_writeCells (a b : Nat) (v : Byte) (cs : List Host.Cell) {lo : Nat} (h : risingFrom lo cs = true) :
    readCells b (writeCells a v cs) = if b = a then some v else readCells b cs := by
  induction cs generalizing lo with
  | nil => simp [writeCells, readCells]
  | cons c rest ih =>
    obtain ⟨a', b'⟩ := c
    simp only [risingFrom, Bool.and_eq_true] at h
    simp only [writeCells]
    split
    · simp [readCells]
    · split
      · subst_vars; simp only [readCells]; split <;> rfl
      · simp only [readCells, ih h.2]
        split <;> split <;> first | rfl | omega

/-- A listed address is at or above the list's bound. -/
theorem readCells_below (a lo : Nat) (cs : List Host.Cell) (h : risingFrom lo cs = true) (ha : a < lo) :
    readCells a cs = none := by
  induction cs generalizing lo with
  | nil => rfl
  | cons c rest ih =>
    obtain ⟨a', b'⟩ := c
    simp only [risingFrom, Bool.and_eq_true, decide_eq_true_eq] at h
    simp only [readCells]
    rw [if_neg (by omega)]
    exact ih (a' + 1) h.2 (by omega)

theorem risingFrom_writeCells (a : Nat) (v : Byte) (cs : List Host.Cell) (lo : Nat) (ha : a < 2 ^ 32) (hlo : lo ≤ a)
    (h : risingFrom lo cs = true) : risingFrom lo (writeCells a v cs) = true := by
  induction cs generalizing lo with
  | nil => simp [writeCells, risingFrom, hlo]; omega
  | cons c rest ih =>
    obtain ⟨a', b'⟩ := c
    simp only [risingFrom, Bool.and_eq_true, decide_eq_true_eq] at h
    simp only [writeCells]
    split
    · simp only [risingFrom, Bool.and_eq_true, decide_eq_true_eq]; exact ⟨⟨hlo, ha⟩, ⟨by omega, h.1.2⟩, h.2⟩
    · split
      · subst_vars; simp only [risingFrom, Bool.and_eq_true, decide_eq_true_eq]; exact h
      · simp only [risingFrom, Bool.and_eq_true, decide_eq_true_eq]
        exact ⟨h.1, ih (a' + 1) (by omega) h.2⟩

/-- Reading the byte written gives it; every other byte stays. -/
theorem Memory.read_write (m : Memory) (a b : Nat) (v : Byte) (h : m.wf = true) :
    (m.write a v).read b = if b = a then some v else m.read b :=
  readCells_writeCells a b v m.cells h

/-- A write keeps the canonical form. -/
theorem Memory.wf_write (m : Memory) (a : Nat) (v : Byte) (ha : a < 2 ^ 32) (h : m.wf = true) :
    (m.write a v).wf = true :=
  risingFrom_writeCells a v m.cells 0 ha (Nat.zero_le a) h

theorem State.reset_dm_wf : State.reset.dm.wf = true := rfl
theorem State.reset_im_wf : State.reset.im.wf = true := rfl

/-- One byte written (R85). -/
theorem State.byteAt_setByte (s : State) (a b : Word) (v : Byte) (h : s.dm.wf = true) :
    (s.setByte a v).byteAt b = if b = a then v else s.byteAt b := by
  simp only [State.byteAt, State.dm_setByte, Memory.read_write _ _ _ _ h, BitVec.toNat_inj]
  split <;> rfl

theorem State.dm_wf_setByte (s : State) (a : Word) (v : Byte) (h : s.dm.wf = true) : (s.setByte a v).dm.wf = true :=
  Memory.wf_write _ _ _ a.isLt h

theorem State.dm_wf_memWrite1 (s : State) (a : Word) (v : Byte) (h : s.dm.wf = true) :
    (s.memWrite1 a v).dm.wf = true := State.dm_wf_setByte s a v h

theorem State.dm_wf_memWrite2 (s : State) (a : Word) (v : BitVec 16) (h : s.dm.wf = true) :
    (s.memWrite2 a v).dm.wf = true :=
  State.dm_wf_setByte _ _ _ (State.dm_wf_setByte _ _ _ h)

theorem State.dm_wf_memWrite4 (s : State) (a : Word) (v : Word) (h : s.dm.wf = true) :
    (s.memWrite4 a v).dm.wf = true :=
  State.dm_wf_setByte _ _ _ (State.dm_wf_setByte _ _ _ (State.dm_wf_setByte _ _ _ (State.dm_wf_setByte _ _ _ h)))

@[simp] theorem State.byteAt_advance (s : State) (a : Word) : s.advance.byteAt a = s.byteAt a := rfl
@[simp] theorem State.byteAt_setGpr (s : State) (r : RegNum) (g : Gpr) (a : Word) :
    (s.setGpr r g).byteAt a = s.byteAt a := rfl
@[simp] theorem State.byteAt_setFpr (s : State) (r : RegNum) (g : Fpr) (a : Word) :
    (s.setFpr r g).byteAt a = s.byteAt a := rfl
@[simp] theorem State.byteAt_raise (s : State) (k : Nat) (a : Word) : (s.raise k).byteAt a = s.byteAt a := rfl

end Sys2Proof.Machine
end

