-- ==== Sys2Proof/Laws/Exceptions.lean ====
section
/-! SUPPORT. Exceptions, the timer, the environment and the cycle: what each operation does to the state, said once. -/

namespace Sys2Proof.Machine

variable {s t : State}

/-! ### Cause bits -/

/-- Pending sets one bit and no other (spec/60_exceptions.md R504). -/
theorem State.cr_pend_bit (s : State) {k j : Nat} (hj : j < 32) :
    (s.pend k).cr.getLsbD j = (decide (j = k) || s.cr.getLsbD j) := by
  simp only [State.cr_pend, BitVec.getLsbD_or, BitVec.getLsbD_shiftLeft, BitVec.getLsbD_one]
  by_cases h : j = k
  · subst h; simp [hj]
  · by_cases h' : j < k
    · simp [h, h']
    · have : j - k ≠ 0 := by omega
      simp [h, this]

/-- `pendCauses` writes CR only. -/
theorem State.pendCauses_eq (s : State) (c : Causes) : s.pendCauses c = { s with cr := (s.pendCauses c).cr } := by
  obtain ⟨a, b, d, e⟩ := c
  cases a <;> cases b <;> cases d <;> cases e <;> rfl

/-! ### Entry and return -/

/-- The return index is the PC, but for an asynchronous cause under last-pc-plus-1 (R547, D10). -/
theorem State.returnIdx_eq {k : Nat} (h : s.params.asyncReturn = .nextPc ∨ k ≠ 1 ∧ k ≠ 30) : s.returnIdx k = s.pc := by
  unfold State.returnIdx
  rcases h with h | ⟨h1, h2⟩
  · rw [h]
  · cases s.params.asyncReturn <;> simp [h1, h2]

/-- Saving the return index writes link registers and ESP with nesting, L0 and MR[32] without (R520). -/
theorem State.saveReturn_eq (s : State) (k : Nat) :
    s.saveReturn k =
      { s with links := (s.saveReturn k).links, esp := (s.saveReturn k).esp, mr := (s.saveReturn k).mr } := by
  unfold State.saveReturn
  split <;> rfl

/-- An entry changes the link registers, ESP, MR, PC, CR, CFG and iack only (R520). -/
theorem State.enter_eq (s : State) (k : Nat) :
    s.enter k =
      { s with
        links := (s.saveReturn k).links
        esp := (s.saveReturn k).esp
        mr := (s.saveReturn k).mr
        pc := BitVec.ofNat 30 k
        cr := s.cr &&& ~~~(1#32 <<< k)
        cfg := s.cfg &&& 0b111110#6
        iack := if k = 30 then true else s.iack } := by
  unfold State.enter
  rw [State.saveReturn_eq]

/-- A return changes ESP, PC, MR and CFG only (R525). -/
theorem State.leave_eq (s : State) :
    s.leave = { s with esp := s.leave.esp, pc := s.leave.pc, mr := s.leave.mr, cfg := s.cfg ||| 1#6 } := by
  unfold State.leave
  split <;> rfl

/-- Detection enters one pending enabled cause or does nothing (R501). -/
theorem State.detect_cases (s : State) :
    (∃ k, s.pendingCause = some k ∧ s.detect = s.enter k) ∨ (s.pendingCause = none ∧ s.detect = s) := by
  unfold State.detect
  cases h : s.pendingCause with
  | none => exact .inr ⟨rfl, rfl⟩
  | some k => exact .inl ⟨k, rfl, rfl⟩

/-- A cause that is entered is one of 1 to 31, pending and enabled (R506). -/
theorem State.pendingCause_some {k : Nat} (h : s.pendingCause = some k) :
    1 ≤ k ∧ k ≤ 31 ∧ s.cr.getLsbD k = true ∧ s.enabled k = true := by
  unfold State.pendingCause at h
  have hm := List.mem_of_find?_eq_some h
  have hp := List.find?_some h
  simp only [List.mem_range', Nat.one_mul] at hm
  obtain ⟨i, hi, rfl⟩ := hm
  simp only [Bool.and_eq_true] at hp
  exact ⟨by omega, by omega, hp.1, hp.2⟩

/-! ### Timer and environment -/

/-- A tick changes TMR and CR only (R541). -/
theorem State.timerTick_eq (s : State) :
    s.timerTick = { s with tmr := s.timerTick.tmr, cr := s.timerTick.cr } := by
  unfold State.timerTick
  split
  · split <;> rfl
  · simp only
    split <;> rfl

/-- The strobe changes TMR only (R542). -/
theorem State.startStrobe_eq (s : State) : s.startStrobe = { s with tmr := s.startStrobe.tmr } := by
  unfold State.startStrobe
  split <;> rfl

/-- A write of CFG changes CFG and TMR only (spec/10_state.md R61). -/
theorem State.writeCfg_eq (s : State) (v : Word) :
    s.writeCfg v = { s with cfg := (s.writeCfg v).cfg, tmr := (s.writeCfg v).tmr } := by
  unfold State.writeCfg
  simp only
  split
  · rw [State.startStrobe_eq]
  · rfl

/-- A write of a special register: which register it was (R61). -/
theorem State.writeSpr_some {k : RegNum} {v : Word} (h : s.writeSpr k v = some t) :
    (k = 0#5 ∧ t = s.writeCfg v) ∨ (k = 1#5 ∧ t = { s with stp := v.extractLsb' 0 22 })
      ∨ (k = 2#5 ∧ t = { s with mr := s.mr.extractLsb' 32 1 ++ v }) ∨ (k = 5#5 ∧ t = s.writePwd v)
      ∨ (k = 6#5 ∧ t = { s with pwa := v }) ∨ ((k = 3#5 ∨ k = 4#5 ∨ k = 7#5 ∨ k = 8#5) ∧ t = s) := by
  have key : ∀ m : Nat, k.toNat = m → m < 32 → k = BitVec.ofNat 5 m := fun m hm hlt => by
    apply BitVec.eq_of_toNat_eq; simp [hm, Nat.mod_eq_of_lt hlt]
  unfold State.writeSpr at h
  split at h <;> rename_i hk <;> cases h
  · exact .inl ⟨key 0 hk (by omega), rfl⟩
  · exact .inr (.inl ⟨key 1 hk (by omega), rfl⟩)
  · exact .inr (.inr (.inl ⟨key 2 hk (by omega), rfl⟩))
  · exact .inr (.inr (.inr (.inr (.inr ⟨.inl (key 3 hk (by omega)), rfl⟩))))
  · exact .inr (.inr (.inr (.inr (.inr ⟨.inr (.inl (key 4 hk (by omega))), rfl⟩))))
  · exact .inr (.inr (.inr (.inl ⟨key 5 hk (by omega), rfl⟩)))
  · exact .inr (.inr (.inr (.inr (.inl ⟨key 6 hk (by omega), rfl⟩))))
  · exact .inr (.inr (.inr (.inr (.inr ⟨.inr (.inr (.inl (key 7 hk (by omega)))), rfl⟩))))
  · exact .inr (.inr (.inr (.inr (.inr ⟨.inr (.inr (.inr (key 8 hk (by omega)))), rfl⟩))))

/-- The clock adds no event but a tick. -/
theorem mem_clocked_reset {evs : List EnvEvent} : .reset ∈ clocked evs ↔ EnvEvent.reset ∈ evs := by
  unfold clocked
  split <;> simp

/-- Every input holds a tick once it is clocked (spec/60_exceptions.md R544). -/
theorem tick_mem_clocked (evs : List EnvEvent) : .tick ∈ clocked evs := by
  unfold clocked
  split
  · assumption
  · simp

/-- Without a Reset the environment applies its clocked events in order (R501, R544). -/
theorem State.environment_eq (h : .reset ∉ s.inputs.headD []) :
    s.environment = (clocked (s.inputs.headD [])).foldl State.event { s with inputs := s.inputs.tail } := if_neg h

/-- What a property needs to survive the environment's events (spec/10_state.md R66). -/
theorem State.environment_induction {P : State → Prop} (s : State)
    (h0 : P { s with inputs := s.inputs.tail }) (hr : ∀ u, P u → P u.resetEvent)
    (he : ∀ u e, P u → e ≠ .reset → P (u.event e)) : P s.environment := by
  unfold State.environment
  simp only
  split
  · exact hr _ h0
  · rename_i hn
    have hn := mt mem_clocked_reset.1 hn
    generalize clocked (s.inputs.headD []) = evs at hn
    generalize ({ s with inputs := s.inputs.tail } : State) = u at h0
    induction evs generalizing u with
    | nil => exact h0
    | cons e rest ih =>
      simp only [List.mem_cons, not_or] at hn
      exact ih hn.2 _ (he u e h0 (Ne.symm hn.1))

/-! ### The cycle -/

/-- What running a word can answer (spec/30_encoding.md R128). -/
theorem runWord_next {run : Instr → State → Result} {w : Word} (h : runWord run w s = .next t) :
    (∃ i, (decode s.params w = .ok i ∨ decode s.params w = .undefinedBits i) ∧ run i s = .next t)
      ∨ t = s.raise 2 := by
  unfold runWord at h
  split at h
  · rename_i i hd; exact .inl ⟨i, .inl hd, h⟩
  · exact .inr (by simpa using h.symm)
  · rename_i i hd
    split at h
    · cases h
    · exact .inl ⟨i, .inr hd, h⟩
    · exact .inr (by simpa using h.symm)

/-- A step that answers a next state fetched a word after the environment and detection (R501). -/
theorem cycle_next {run : Instr → State → Result} (h : cycle run s = .next t) :
    ∃ w, s.begin.codeWord s.begin.pc = some w ∧ runWord run w (s.begin.fetched w) = .next t := by
  unfold cycle at h
  simp only at h
  split at h
  · cases h
  · rename_i w hw; exact ⟨w, hw, h⟩

/-- A step on a word that decodes runs its instruction. -/
theorem cycle_ok {run : Instr → State → Result} {w : Word} {i : Instr}
    (hw : s.begin.codeWord s.begin.pc = some w) (hd : decode s.begin.params w = .ok i) :
    cycle run s = run i (s.begin.fetched w) := by
  unfold cycle runWord
  simp only [hw, State.params_fetched, hd]

end Sys2Proof.Machine
end

