-- ==== Sys2Proof/Laws/Forms.lean ====
section
/-! SUPPORT. What each operand form of Machine/Operands.lean can answer: one lemma per form that says all of it, and
the conditions under which it answers the effect of the instruction. -/

namespace Sys2Proof.Machine

variable {s t : State}

theorem done_next (h : done s = .next t) : t = s.advance := by
  simpa [done] using h.symm

/-! ### Memory accesses -/

/-- An access that answers a next state either raised E3 or was made. -/
theorem withAccess_next {n : Nat} {a : Word} {k : Result} (h : withAccess s n a k = .next t) :
    (a.toNat % n ≠ 0 ∧ t = s.raise 3) ∨ (a.toNat % n = 0 ∧ populated s.params a.toNat n = true ∧ k = .next t) := by
  unfold withAccess at h
  split at h
  · rename_i ha
    split at h
    · rename_i hp
      exact .inr ⟨ha, hp, h⟩
    · cases h
  · rename_i ha
    exact .inl ⟨ha, by simpa using h.symm⟩

theorem withAccess_made {n : Nat} {a : Word} (k : Result) (ha : a.toNat % n = 0)
    (hp : populated s.params a.toNat n = true) : withAccess s n a k = k := by
  simp [withAccess, ha, hp]

theorem withAccess_misaligned {n : Nat} {a : Word} (k : Result) (ha : a.toNat % n ≠ 0) :
    withAccess s n a k = .next (s.raise 3) := by
  simp [withAccess, ha]

theorem withAccess_unpopulated {n : Nat} {a : Word} (k : Result) (ha : a.toNat % n = 0)
    (hp : populated s.params a.toNat n = false) : withAccess s n a k = .fault .unpopulatedData := by
  simp [withAccess, ha, hp]

theorem loadGpr_next {n : Nat} {value : State → Word → Word} {dst base : RegNum} {dis : BitVec 16}
    (h : loadGpr n value dst base dis s = .next t) :
    t = s.raise 3 ∨ t = (s.setReg dst (value s (s.ea base dis))).advance := by
  obtain ⟨_, h⟩ | ⟨_, _, h⟩ := withAccess_next h
  · exact .inl h
  · exact .inr (done_next h)

theorem store_next {n : Nat} {write : State → Word → State} {base : RegNum} {dis : BitVec 16}
    (h : store n write base dis s = .next t) : t = s.raise 3 ∨ t = (write s (s.ea base dis)).advance := by
  obtain ⟨_, h⟩ | ⟨_, _, h⟩ := withAccess_next h
  · exact .inl h
  · exact .inr (done_next h)

/-! ### Integer forms -/

theorem unaryL_next {op : Long → AluOut 64} {dst src : RegNum} (h : unaryL op dst src s = .next t) :
    ((odd dst || odd src) = true ∧ t = s.raise 4)
      ∨ ((odd dst || odd src) = false ∧ t = (s.writeL dst (op (s.pair src))).advance) := by
  unfold unaryL at h
  split at h
  · rename_i ho; exact .inl ⟨ho, by simpa using h.symm⟩
  · rename_i ho; exact .inr ⟨by simpa using ho, done_next h⟩

theorem binaryL_next {op : Long → Long → AluOut 64} {dst s1 s2 : RegNum} (h : binaryL op dst s1 s2 s = .next t) :
    ((odd dst || odd s1 || odd s2) = true ∧ t = s.raise 4)
      ∨ ((odd dst || odd s1 || odd s2) = false ∧ t = (s.writeL dst (op (s.pair s1) (s.pair s2))).advance) := by
  unfold binaryL at h
  split at h
  · rename_i ho; exact .inl ⟨ho, by simpa using h.symm⟩
  · rename_i ho; exact .inr ⟨by simpa using ho, done_next h⟩

theorem divideW_next {op : Word → Word → AluOut 32} {dst s1 s2 : RegNum} (h : divideW op dst s1 s2 s = .next t) :
    (s.reg s2 = 0#32 ∧ t = s.raise 6)
      ∨ (s.reg s2 ≠ 0#32 ∧ t = (s.writeW dst (op (s.reg s1) (s.reg s2))).advance) := by
  unfold divideW at h
  split at h
  · rename_i hz; exact .inl ⟨hz, by simpa using h.symm⟩
  · rename_i hz; exact .inr ⟨hz, done_next h⟩

theorem divideL_next {op : Long → Long → AluOut 64} {dst s1 s2 : RegNum} (h : divideL op dst s1 s2 s = .next t) :
    ((odd dst || odd s1 || odd s2) = true ∧ t = s.raise 4)
      ∨ ((odd dst || odd s1 || odd s2) = false ∧ s.pair s2 = 0#64 ∧ t = s.raise 7)
      ∨ ((odd dst || odd s1 || odd s2) = false ∧ s.pair s2 ≠ 0#64
          ∧ t = (s.writeL dst (op (s.pair s1) (s.pair s2))).advance) := by
  unfold divideL at h
  split at h
  · rename_i ho; exact .inl ⟨ho, by simpa using h.symm⟩
  · rename_i ho
    replace ho : (odd dst || odd s1 || odd s2) = false := by simpa using ho
    split at h
    · rename_i hz; exact .inr (.inl ⟨ho, hz, by simpa using h.symm⟩)
    · rename_i hz
      obtain ⟨ho', _⟩ | ⟨_, h⟩ := binaryL_next h
      · rw [ho] at ho'; cases ho'
      · exact .inr (.inr ⟨ho, hz, h⟩)

/-! ### Floating point forms -/

theorem fpuF_next {op : FpuOp} {dst s1 s2 : RegNum} (h : fpuF op dst s1 s2 s = .next t) :
    (s.params.hasFpu = false ∧ t = s.raise 8)
      ∨ (s.params.hasFpu = true
          ∧ t = ((s.pendCauses (op.single s.rnd (s.freg s1) (s.freg s2)).causes).writeF dst
              (fpOut32 ((op.single s.rnd (s.freg s1) (s.freg s2)).res.bits32 s.drawn))).draw.advance) := by
  unfold fpuF at h
  split at h
  · rename_i hf; exact .inr ⟨hf, done_next h⟩
  · rename_i hf; exact .inl ⟨by simpa using hf, by simpa using h.symm⟩

theorem fpuD_next {op : FpuOp} {dst s1 s2 : RegNum} (h : fpuD op dst s1 s2 s = .next t) :
    (s.params.hasFpu = false ∧ t = s.raise 8)
      ∨ (s.params.hasFpu = true ∧ (odd dst || odd s1 || odd s2) = true ∧ t = s.raise 5)
      ∨ (s.params.hasFpu = true ∧ (odd dst || odd s1 || odd s2) = false
          ∧ t = ((s.pendCauses (op.double s.rnd (s.fpair s1) (s.fpair s2)).causes).writeD dst
              (fpOut64 ((op.double s.rnd (s.fpair s1) (s.fpair s2)).res.bits64 s.drawn))).advance) := by
  unfold fpuD at h
  split at h
  · rename_i hf
    split at h
    · rename_i ho; exact .inr (.inl ⟨hf, ho, by simpa using h.symm⟩)
    · rename_i ho; exact .inr (.inr ⟨hf, by simpa using ho, done_next h⟩)
  · rename_i hf; exact .inl ⟨by simpa using hf, by simpa using h.symm⟩

theorem needFpu_next {k : Result} (h : needFpu s k = .next t) :
    (s.params.hasFpu = false ∧ t = s.raise 8) ∨ (s.params.hasFpu = true ∧ k = .next t) := by
  unfold needFpu at h
  split at h
  · rename_i hf; exact .inr ⟨hf, h⟩
  · rename_i hf; exact .inl ⟨by simpa using hf, by simpa using h.symm⟩

theorem needCordic_next {k : Result} (h : needCordic s k = .next t) :
    (s.params.hasCordic = false ∧ t = s.raise 2) ∨ (s.params.hasCordic = true ∧ k = .next t) := by
  unfold needCordic at h
  split at h
  · rename_i hf; exact .inr ⟨hf, h⟩
  · rename_i hf; exact .inl ⟨by simpa using hf, by simpa using h.symm⟩

theorem needCordicFpu_next {k : Result} (h : needCordicFpu s k = .next t) :
    (s.params.hasCordic = false ∧ t = s.raise 2)
      ∨ (s.params.hasCordic = true ∧ s.params.hasFpu = false ∧ t = s.raise 9)
      ∨ (s.params.hasCordic = true ∧ s.params.hasFpu = true ∧ k = .next t) := by
  obtain h | ⟨hc, h⟩ := needCordic_next h
  · exact .inl h
  · split at h
    · rename_i hf; exact .inr (.inr ⟨hc, hf, h⟩)
    · rename_i hf; exact .inr (.inl ⟨hc, by simpa using hf, by simpa using h.symm⟩)

/-- A check followed by a write-back: it raises the check's cause, or writes. -/
theorem checked_next {b : Bool} {k : Nat} {u : State} (h : (if b then .next (s.raise k) else done u : Result) = .next t) :
    (b = true ∧ t = s.raise k) ∨ (b = false ∧ t = u.advance) := by
  split at h
  · rename_i hb; exact .inl ⟨hb, by simpa using h.symm⟩
  · rename_i hb; exact .inr ⟨by simpa using hb, done_next h⟩

/-! ### Branches -/

theorem branch_next {taken : Bool} {dis : BitVec 17} (h : branch taken dis s = .next t) :
    t = { s with pc := if taken then s.pc + 1#30 + dis.signExtend 30 else s.pc + 1#30 } := by
  simpa [branch] using h.symm

end Sys2Proof.Machine
end

