-- ==== Sys2Proof/Tests/Slice0.lean ====
section
/-! SUPPORT. Our own tests. The expected values come from the spec: the example of each instruction's rule, and the
vectors of spec/95_test_vectors.md by their numbers. Then, for each statement with hypotheses, states and operands that
meet them. -/

namespace Sys2Proof.Tests

open Sys2Proof Sys2Proof.Machine

/-! ### WellFormed refuses -/

theorem test_wf_pair_odd : Instr.wellFormed Config.Params.standard (.movL 3#5 4#5) = false := by decide
theorem test_wf_pair_odd_source : Instr.wellFormed Config.Params.standard (.addD 4#5 0#5 3#5) = false := by decide
theorem test_wf_spr_9 : Instr.wellFormed Config.Params.standard (.movw2s 9#5 1#5) = false := by decide
theorem test_wf_jump_not_canonical : Instr.wellFormed Config.Params.standard (.j 0x4000000#28) = false := by decide
theorem test_wf_admits :
    [Instr.movL 2#5 4#5, .movs2w 1#5 8#5, .j 0xFFFFFFF#28, .multL 4#5 0#5 2#5].all
      (Instr.wellFormed Config.Params.standard) = true := by decide

/-! ### Decoding: the example word of every instruction's rule, both ways -/

/-- Each word decodes to its instruction, and the instruction encodes to the word. -/
def codes (rows : List (Nat × Instr)) : Bool :=
  rows.all fun r =>
    decodeTableWord 32 r.1 == some r.2 && (encode Config.Params.standard r.2).toNat == r.1

theorem test_decode_transfer :
    codes [
    (0x80410000, (.movW 1#5 2#5)), (0x80830200, (.movL 3#5 4#5)), (0x80410400, (.movF 1#5 2#5)),
    (0x80820600, (.movD 2#5 4#5)), (0x80410010, (.movf2w 1#5 2#5)), (0x80410210, (.movw2f 1#5 2#5)),
    (0x80820410, (.movd2l 2#5 4#5)), (0x80820610, (.movl2d 2#5 4#5)), (0x80200020, (.movw2s 0#5 1#5)),
    (0x80810220, (.movs2w 1#5 4#5)), (0xbc411800, (.movn2fgG 1#5 2#5 3#3)),
    (0xbc414000, (.movfg2nG 1#5 2#5 0#3)), (0xbc41b800, (.movn2fgF 1#5 2#5 7#3)),
    (0xbc41c800, (.movfg2nF 1#5 2#5 1#3))] = true := by decide

theorem test_decode_memory :
    codes [
    (0x4c01fffe, (.loadi 1#5 65534#16)), (0x5001ffff, (.loadui 1#5 65535#16)), (0x54011234, (.lhi 1#5 4660#16)),
    (0x94410003, (.loadB 1#5 2#5 3#16)), (0x98410003, (.loaduB 1#5 2#5 3#16)),
    (0x9c41fffe, (.loadH 1#5 2#5 65534#16)), (0xa0410000, (.loaduH 1#5 2#5 0#16)),
    (0xa4410008, (.loadW 1#5 2#5 8#16)), (0xa8410000, (.loadF 1#5 2#5 0#16)),
    (0xac410003, (.storeB 1#5 2#5 3#16)), (0xb0410002, (.storeH 1#5 2#5 2#16)),
    (0xb4410000, (.storeW 1#5 2#5 0#16)), (0xb8410004, (.storeF 1#5 2#5 4#16))] = true := by decide

theorem test_decode_arithmetic :
    codes [
    (0x84410005, (.addiW 1#5 2#5 5#16)), (0x8841ffff, (.adduiW 1#5 2#5 65535#16)),
    (0x8c210001, (.subiW 1#5 1#5 1#16)), (0x90410005, (.subuiW 1#5 2#5 5#16)),
    (0xc0231000, (.addW 3#5 1#5 2#5)), (0xc0041200, (.addL 4#5 0#5 2#5)), (0xc0231400, (.addF 3#5 1#5 2#5)),
    (0xc0041600, (.addD 4#5 0#5 2#5)), (0xc0231010, (.subW 3#5 1#5 2#5)), (0xc0041210, (.subL 4#5 0#5 2#5)),
    (0xc0231410, (.subF 3#5 1#5 2#5)), (0xc0041610, (.subD 4#5 0#5 2#5)), (0xc0231020, (.multW 3#5 1#5 2#5)),
    (0xc0041220, (.multL 4#5 0#5 2#5)), (0xc0231420, (.multF 3#5 1#5 2#5)), (0xc0041620, (.multD 4#5 0#5 2#5)),
    (0xc0231030, (.divW 3#5 1#5 2#5)), (0xc0041230, (.divL 4#5 0#5 2#5)), (0xc0231430, (.divF 3#5 1#5 2#5)),
    (0xc0041630, (.divD 4#5 0#5 2#5)), (0xc0231040, (.remW 3#5 1#5 2#5)), (0xc0041240, (.remL 4#5 0#5 2#5)),
    (0xc0231080, (.rlW 3#5 1#5 2#5)), (0xc0041280, (.rlL 4#5 0#5 2#5)), (0xc0231090, (.rrW 3#5 1#5 2#5)),
    (0xc0041290, (.rrL 4#5 0#5 2#5)), (0xc02310a0, (.slW 3#5 1#5 2#5)), (0xc00412a0, (.slL 4#5 0#5 2#5)),
    (0xc02310b0, (.sraW 3#5 1#5 2#5)), (0xc00412b0, (.sraL 4#5 0#5 2#5))] = true := by decide

theorem test_decode_cordic1_cos_to_sinh :
    codes [
    (0x80410100, (.cosW 1#5 2#5)), (0x80820300, (.cosL 2#5 4#5)), (0x80410500, (.cosF 1#5 2#5)),
    (0x80820700, (.cosD 2#5 4#5)), (0x80410110, (.coshW 1#5 2#5)), (0x80820310, (.coshL 2#5 4#5)),
    (0x80410510, (.coshF 1#5 2#5)), (0x80820710, (.coshD 2#5 4#5)), (0x80410120, (.sinW 1#5 2#5)),
    (0x80820320, (.sinL 2#5 4#5)), (0x80410520, (.sinF 1#5 2#5)), (0x80820720, (.sinD 2#5 4#5)),
    (0x80410130, (.sinhW 1#5 2#5)), (0x80820330, (.sinhL 2#5 4#5)), (0x80410530, (.sinhF 1#5 2#5)),
    (0x80820730, (.sinhD 2#5 4#5))] = true := by decide

theorem test_decode_cordic1_sqrt1_to_sqrt :
    codes [
    (0x80410140, (.sqrt1msqW 1#5 2#5)), (0x80820340, (.sqrt1msqL 2#5 4#5)), (0x80410540, (.sqrt1msqF 1#5 2#5)),
    (0x80820740, (.sqrt1msqD 2#5 4#5)), (0x80410150, (.sqrt1psqW 1#5 2#5)), (0x80820350, (.sqrt1psqL 2#5 4#5)),
    (0x80410550, (.sqrt1psqF 1#5 2#5)), (0x80820750, (.sqrt1psqD 2#5 4#5)), (0x80410160, (.atanW 1#5 2#5)),
    (0x80820360, (.atanL 2#5 4#5)), (0x80410560, (.atanF 1#5 2#5)), (0x80820760, (.atanD 2#5 4#5)),
    (0x80410170, (.atanhW 1#5 2#5)), (0x80820370, (.atanhL 2#5 4#5)), (0x80410570, (.atanhF 1#5 2#5)),
    (0x80820770, (.atanhD 2#5 4#5)), (0x80410180, (.lnW 1#5 2#5)), (0x80820380, (.lnL 2#5 4#5)),
    (0x80410580, (.lnF 1#5 2#5)), (0x80820780, (.lnD 2#5 4#5)), (0x80410190, (.sqrtW 1#5 2#5)),
    (0x80820390, (.sqrtL 2#5 4#5)), (0x80410590, (.sqrtF 1#5 2#5)), (0x80820790, (.sqrtD 2#5 4#5))] = true := by decide

theorem test_decode_cordic2 :
    codes [
    (0xc0231100, (.pol2recxW 3#5 1#5 2#5)), (0xc0041300, (.pol2recxL 4#5 0#5 2#5)),
    (0xc0231500, (.pol2recxF 3#5 1#5 2#5)), (0xc0041700, (.pol2recxD 4#5 0#5 2#5)),
    (0xc0231110, (.pol2recyW 3#5 1#5 2#5)), (0xc0041310, (.pol2recyL 4#5 0#5 2#5)),
    (0xc0231510, (.pol2recyF 3#5 1#5 2#5)), (0xc0041710, (.pol2recyD 4#5 0#5 2#5)),
    (0xc0231120, (.hyp2recxW 3#5 1#5 2#5)), (0xc0041320, (.hyp2recxL 4#5 0#5 2#5)),
    (0xc0231520, (.hyp2recxF 3#5 1#5 2#5)), (0xc0041720, (.hyp2recxD 4#5 0#5 2#5)),
    (0xc0231130, (.hyp2recyW 3#5 1#5 2#5)), (0xc0041330, (.hyp2recyL 4#5 0#5 2#5)),
    (0xc0231530, (.hyp2recyF 3#5 1#5 2#5)), (0xc0041730, (.hyp2recyD 4#5 0#5 2#5)),
    (0xc0231140, (.normW 3#5 1#5 2#5)), (0xc0041340, (.normL 4#5 0#5 2#5)), (0xc0231540, (.normF 3#5 1#5 2#5)),
    (0xc0041740, (.normD 4#5 0#5 2#5)), (0xc0231150, (.atan2W 3#5 1#5 2#5)),
    (0xc0041350, (.atan2L 4#5 0#5 2#5)), (0xc0231550, (.atan2F 3#5 1#5 2#5)),
    (0xc0041750, (.atan2D 4#5 0#5 2#5))] = true := by decide

theorem test_decode_logic :
    codes [
    (0x80410060, (.invW 1#5 2#5)), (0x80820260, (.invL 2#5 4#5)), (0xc0231050, (.andW 3#5 1#5 2#5)),
    (0xc0041250, (.andL 4#5 0#5 2#5)), (0xc0231060, (.orW 3#5 1#5 2#5)), (0xc0041260, (.orL 4#5 0#5 2#5)),
    (0xc0231070, (.xorW 3#5 1#5 2#5)), (0xc0041270, (.xorL 4#5 0#5 2#5)), (0xc02310c0, (.srlW 3#5 1#5 2#5)),
    (0xc00412c0, (.srlL 4#5 0#5 2#5))] = true := by decide

theorem test_decode_control :
    codes [
    (0x5, (.j 5#28)), (0xfffffff, (.j 0xFFFFFFF#28)), (0x10000000, .trap), (0x20000000, .rfe),
    (0x43e00000, (.jr 31#5)), (0x441f0010, (.jal 31#5 16#16)), (0x4821fffe, (.bc 1#5 131070#17)),
    (0x4823fffe, (.bv 1#5 131070#17)), (0x4825fffe, (.bz 1#5 131070#17)), (0x4827fffe, (.bn 1#5 131070#17)),
    (0x4829fffe, (.bnc 1#5 131070#17)), (0x482bfffe, (.bnv 1#5 131070#17)), (0x482dfffe, (.bnz 1#5 131070#17)),
    (0x482ffffe, (.bnn 1#5 131070#17)), (0x4831fffe, (.bfpan 1#5 131070#17)),
    (0x4833fffe, (.bfpinf 1#5 131070#17)), (0x4835fffe, (.bfpz 1#5 131070#17)),
    (0x4837fffe, (.bfpn 1#5 131070#17)), (0x4839fffe, (.bfpnan 1#5 131070#17)),
    (0x483bfffe, (.bfpninf 1#5 131070#17)), (0x483dfffe, (.bfpnz 1#5 131070#17)),
    (0x483ffffe, (.bfpnn 1#5 131070#17)), (0x80bf0070, (.jral 31#5 5#5))] = true := by decide

theorem test_decode_conversion :
    codes [
    (0x80220030, (.cnvf2d 2#5 1#5)), (0x80410230, (.cnvd2f 1#5 2#5)), (0x80410430, (.cnvf2w 1#5 2#5)),
    (0x80410630, (.cnvw2f 1#5 2#5)), (0x80410040, (.cnvd2w 1#5 2#5)), (0x80220240, (.cnvw2d 2#5 1#5)),
    (0x80220440, (.cnvf2l 2#5 1#5)), (0x80410640, (.cnvl2f 1#5 2#5)), (0x80820050, (.cnvd2l 2#5 4#5)),
    (0x80820250, (.cnvl2d 2#5 4#5))] = true := by decide

/-- DEC-1 to DEC-14 of spec/95_test_vectors.md: words that select no instruction. -/
theorem test_decode_unassigned :
    [0x30000000#32, 0x58000000#32, 0x7C000000#32, 0x80000420#32, 0x80000270#32, 0x80000080#32, 0x800001A0#32,
      0x80000450#32, 0x80000660#32, 0xC0000440#32, 0xC00000D0#32, 0xC0000160#32, 0xC00006C0#32, 0xFFFFFFFF#32].all
      (fun w => decode Config.Params.standard w == .unassigned) = true := by decide
/-- A non-zero undefined bit (spec/30_encoding.md R119). -/
theorem test_decode_undefined_bit :
    decode Config.Params.standard 0x10000001#32 = .undefinedBits .trap := by decide

/-! ### One step: vectors of spec/95_test_vectors.md -/

/-- The start state of the vectors: the reset state at word 64, with nothing but the clock before the step. -/
def start : State := { State.reset with inputs := [[]], pc := 64#30 }
/-- A state with GPRs and FPRs set. -/
def regs (s : State) (g : List (RegNum × Gpr)) (f : List (RegNum × Fpr)) : State :=
  f.foldl (fun t x => t.setFpr x.1 x.2) (g.foldl (fun t x => t.setGpr x.1 x.2) s)
/-- One step on a word. -/
def run (w : Nat) (s : State) : Option State :=
  match step (s.withFetchWord 32 w) with
  | .next t => some t
  | _ => none

/-- RT-1: `mov.w R1,R2` -/
theorem test_rt_1 :
    (run 0x80410000 (regs start [(2#5, ⟨0x80000001#32, true, false, false⟩)] [])).map (fun t => (t.reg 1#5,
      (t.gpr 1#5).c, (t.gpr 1#5).v, (t.gpr 1#5).z, t.pc))
      = some (0x80000001#32, true, false, false, 65#30) := by decide

/-- RT-5: `mov.l R3,R4` -/
theorem test_rt_5 :
    (run 0x80830200 (regs start [(4#5, ⟨0x1#32, false, false, false⟩), (5#5, ⟨0x2#32, false, false, false⟩)]
      [])).map (fun t => (t.cr, t.pc))
      = some (0x00000010#32, 65#30) := by decide

/-- RT-13: `movw2f F1,R2` -/
theorem test_rt_13 :
    (run 0x80410210 (regs start [(2#5, ⟨0xc0000000#32, false, true, true⟩)] [])).map (fun t => (t.freg 1#5,
      (t.fpr 1#5).a, (t.fpr 1#5).i, (t.fpr 1#5).z, t.pc))
      = some (0xC0000000#32, false, true, true, 65#30) := by decide

/-- RT-17: `movl2d F2,R4` -/
theorem test_rt_17 :
    (run 0x80820610 (regs start [(4#5, ⟨0x12345678#32, false, false, true⟩), (5#5, ⟨0x9abcdef0#32, true, true,
      false⟩)] [])).map (fun t => (t.fpr 2#5, t.fpr 3#5, t.pc))
      = some (⟨0x12345678#32, false, false, true⟩, ⟨0x9ABCDEF0#32, true, true, false⟩, 65#30) := by decide

/-- RT-21: `movw2s CFG,R1` -/
theorem test_rt_21 :
    (run 0x80200020 (regs start [(1#5, ⟨0xffffffff#32, false, false, false⟩)] [])).map (fun t => (t.cfg, t.tmr,
      t.pc))
      = some (0x37#6, 0x000003FF#32, 65#30) := by decide

/-- RT-37: `movs2w R1,STP` -/
theorem test_rt_37 :
    (run 0x80210220 (regs { start with stp := 0x3fffff#22 } [(1#5, ⟨0x0#32, true, true, true⟩)] [])).map (fun t
      => (t.reg 1#5, (t.gpr 1#5).c, (t.gpr 1#5).v, (t.gpr 1#5).z, t.pc))
      = some (0x003FFFFF#32, false, false, false, 65#30) := by decide

/-- RT-45: `movn2fg.g R1,R2,3` -/
theorem test_rt_45 :
    (run 0xBC411800 (regs start [(2#5, ⟨0xa000#32, false, false, false⟩)] [])).map (fun t => ((t.gpr 1#5).c,
      (t.gpr 1#5).v, (t.gpr 1#5).z, t.pc))
      = some (true, false, true, 65#30) := by decide

/-- RT-49: `movfg2n.g R1,R2,7` -/
theorem test_rt_49 :
    (run 0xBC417800 (regs start [(1#5, ⟨0x1234567#32, false, false, false⟩), (2#5, ⟨0x80000000#32, true, true,
      true⟩)] [])).map (fun t => (t.reg 1#5, t.pc))
      = some (0xF1234567#32, 65#30) := by decide

/-- RT-53: `movfg2n.f R1,F2,1` -/
theorem test_rt_53 :
    (run 0xBC41C800 (regs start [] [(2#5, ⟨0xbf800000#32, true, false, false⟩)])).map (fun t => (t.reg 1#5,
      t.pc))
      = some (0x00000090#32, 65#30) := by decide

/-- MEM-7: `load.b R1,3(R2)` -/
theorem test_mem_7 :
    (run 0x94410003 (regs { start with dm := ⟨[(0x100, 0x12#8), (0x101, 0x34#8), (0x102, 0x56#8), (0x103,
      0x78#8), (0x104, 0x80#8), (0x105, 0xff#8), (0x106, 0x7f#8), (0x107, 0x0#8)]⟩ } [(2#5, ⟨0x100#32, false,
      false, false⟩)] [])).map (fun t => (t.reg 1#5, t.pc))
      = some (0x00000078#32, 65#30) := by decide

/-- MEM-11: `load.h R1,4(R2)` -/
theorem test_mem_11 :
    (run 0x9C410004 (regs { start with dm := ⟨[(0x100, 0x12#8), (0x101, 0x34#8), (0x102, 0x56#8), (0x103,
      0x78#8), (0x104, 0x80#8), (0x105, 0xff#8), (0x106, 0x7f#8), (0x107, 0x0#8)]⟩ } [(2#5, ⟨0x100#32, false,
      false, false⟩)] [])).map (fun t => (t.reg 1#5, t.pc))
      = some (0xFFFF80FF#32, 65#30) := by decide

/-- MEM-19: `load.w R1,1(R2)` -/
theorem test_mem_19 :
    (run 0xA4410001 (regs { start with dm := ⟨[(0x0, 0xde#8), (0x1, 0xad#8), (0x2, 0xbe#8), (0x3, 0xef#8)]⟩ }
      [(2#5, ⟨0xffffffff#32, false, false, false⟩)] [])).map (fun t => (t.reg 1#5, t.pc))
      = some (0xDEADBEEF#32, 65#30) := by decide

/-- MEM-23: `load.f F1,2(R2)` -/
theorem test_mem_23 :
    (run 0xA8410002 (regs { start with dm := ⟨[(0x100, 0x12#8), (0x101, 0x34#8), (0x102, 0x56#8), (0x103,
      0x78#8), (0x104, 0x80#8), (0x105, 0xff#8), (0x106, 0x7f#8), (0x107, 0x0#8)]⟩ } [(2#5, ⟨0x100#32, false,
      false, false⟩)] [])).map (fun t => (t.cr, t.pc))
      = some (0x00000008#32, 65#30) := by decide

/-- MEM-31: `store.w R2,0(R2)` -/
theorem test_mem_31 :
    (run 0xB4420000 (regs { start with dm := ⟨[(0x100, 0x9#8), (0x101, 0x9#8), (0x102, 0x9#8), (0x103, 0x9#8)]⟩
      } [(2#5, ⟨0x100#32, false, false, false⟩)] [])).map (fun t => (t.byteAt 0x00000100#32, t.byteAt
      0x00000101#32, t.byteAt 0x00000102#32, t.byteAt 0x00000103#32, t.pc))
      = some (0x00#8, 0x00#8, 0x01#8, 0x00#8, 65#30) := by decide

/-- AR-2: `addi.w R1,R2,1` -/
theorem test_ar_2 :
    (run 0x84410001 (regs start [(2#5, ⟨0x7fffffff#32, false, false, false⟩)] [])).map (fun t => (t.reg 1#5,
      (t.gpr 1#5).c, (t.gpr 1#5).v, (t.gpr 1#5).z, t.pc))
      = some (0x80000000#32, false, true, false, 65#30) := by decide

/-- AR-14: `add.w R3,R1,R2` -/
theorem test_ar_14 :
    (run 0xC0231000 (regs start [(1#5, ⟨0x2#32, false, false, false⟩), (2#5, ⟨0x3#32, false, false, false⟩)]
      [])).map (fun t => (t.reg 3#5, t.pc))
      = some (0x00000005#32, 65#30) := by decide

/-- AR-18: `add.l R4,R0,R2` -/
theorem test_ar_18 :
    (run 0xC0041200 (regs start [(0#5, ⟨0xffffffff#32, false, false, false⟩), (1#5, ⟨0x0#32, false, false,
      false⟩), (2#5, ⟨0x1#32, false, false, false⟩), (3#5, ⟨0x0#32, false, false, false⟩)] [])).map (fun t =>
      (t.reg 5#5, t.pc))
      = some (0x00000001#32, 65#30) := by decide

/-- AR-26: `sub.w R3,R1,R2` -/
theorem test_ar_26 :
    (run 0xC0231010 (regs start [(1#5, ⟨0x7fffffff#32, false, false, false⟩), (2#5, ⟨0xffffffff#32, false,
      false, false⟩)] [])).map (fun t => (t.reg 3#5, (t.gpr 3#5).v, (t.gpr 3#5).z, t.pc))
      = some (0x80000000#32, true, false, 65#30) := by decide

/-- AR-34: `div.w R3,R1,R2` -/
theorem test_ar_34 :
    (run 0xC0231030 (regs start [(1#5, ⟨0xfffffff9#32, false, false, false⟩), (2#5, ⟨0x2#32, false, false,
      false⟩)] [])).map (fun t => (t.reg 3#5, (t.gpr 3#5).z, t.pc))
      = some (0xFFFFFFFD#32, false, 65#30) := by decide

/-- AR-38: `div.w R3,R1,R2` -/
theorem test_ar_38 :
    (run 0xC0231030 (regs start [(1#5, ⟨0x5#32, false, false, false⟩), (2#5, ⟨0x0#32, false, false, false⟩),
      (3#5, ⟨0x9#32, false, false, false⟩)] [])).map (fun t => (t.cr, t.pc))
      = some (0x00000040#32, 65#30) := by decide

/-- AR-42: `rem.w R3,R1,R2` -/
theorem test_ar_42 :
    (run 0xC0231040 (regs start [(1#5, ⟨0xfffffff9#32, false, false, false⟩), (2#5, ⟨0x2#32, false, false,
      false⟩)] [])).map (fun t => (t.reg 3#5, (t.gpr 3#5).z, t.pc))
      = some (0xFFFFFFFF#32, false, 65#30) := by decide

/-- AR-50: `rl.w R3,R1,R2` -/
theorem test_ar_50 :
    (run 0xC0231080 (regs start [(1#5, ⟨0x80000001#32, false, false, false⟩), (2#5, ⟨0xffffffff#32, false,
      false, false⟩)] [])).map (fun t => (t.reg 3#5, (t.gpr 3#5).z, t.pc))
      = some (0xC0000000#32, false, 65#30) := by decide

/-- AR-54: `rr.l R4,R0,R2` -/
theorem test_ar_54 :
    (run 0xC0041290 (regs start [(0#5, ⟨0x1#32, false, false, false⟩), (1#5, ⟨0x0#32, false, false, false⟩),
      (2#5, ⟨0x1#32, false, false, false⟩)] [])).map (fun t => (t.reg 5#5, (t.gpr 5#5).z, t.pc))
      = some (0x80000000#32, false, 65#30) := by decide

/-- AR-66: `sra.l R4,R0,R2` -/
theorem test_ar_66 :
    (run 0xC00412B0 (regs start [(0#5, ⟨0x0#32, false, false, false⟩), (1#5, ⟨0x80000000#32, false, false,
      false⟩), (2#5, ⟨0x20#32, false, false, false⟩)] [])).map (fun t => (t.reg 4#5, t.reg 5#5, (t.gpr 5#5).z,
      t.pc))
      = some (0x80000000#32, 0xFFFFFFFF#32, false, 65#30) := by decide

/-- FP-2: `add.f F3,F1,F2` -/
theorem test_fp_2 :
    (run 0xC0231400 (regs start [] [(1#5, ⟨0x3f800000#32, false, false, false⟩), (2#5, ⟨0x33800000#32, false,
      false, false⟩)])).map (fun t => (t.freg 3#5, (t.fpr 3#5).a, (t.fpr 3#5).i, (t.fpr 3#5).z, t.pc))
      = some (0x3F800000#32, true, false, false, 65#30) := by decide

/-- FP-6: `add.f F3,F1,F2` -/
theorem test_fp_6 :
    (run 0xC0231400 (regs { start with cfg := 0x10#6 } [] [(1#5, ⟨0x7f7fffff#32, false, false, false⟩), (2#5,
      ⟨0x7f7fffff#32, false, false, false⟩)])).map (fun t => (t.freg 3#5, (t.fpr 3#5).a, (t.fpr 3#5).i, (t.fpr
      3#5).z, t.cr, t.pc))
      = some (0x7F7FFFFF#32, true, false, false, 0x00001000#32, 65#30) := by decide

/-- FP-10: `add.f F3,F1,F2` -/
theorem test_fp_10 :
    (run 0xC0231400 (regs { start with params := { Config.Params.standard with hasFpu := false } } [] [(1#5,
      ⟨0x3f800000#32, false, false, false⟩), (2#5, ⟨0x40000000#32, false, false, false⟩)])).map (fun t => (t.cr,
      t.pc))
      = some (0x00000100#32, 65#30) := by decide

/-- FP-18: `mult.f F3,F1,F2` -/
theorem test_fp_18 :
    (run 0xC0231420 (regs start [] [(1#5, ⟨0xbf800000#32, false, false, false⟩), (2#5, ⟨0x0#32, false, false,
      false⟩)])).map (fun t => (t.freg 3#5, (t.fpr 3#5).a, (t.fpr 3#5).i, (t.fpr 3#5).z, t.pc))
      = some (0x80000000#32, true, false, true, 65#30) := by decide

/-- FP-26: `div.f F3,F1,F2` -/
theorem test_fp_26 :
    (run 0xC0231430 (regs { start with cfg := 0x30#6 } [] [(1#5, ⟨0xbf800000#32, false, false, false⟩), (2#5,
      ⟨0x40400000#32, false, false, false⟩)])).map (fun t => (t.freg 3#5, (t.fpr 3#5).a, (t.fpr 3#5).i, (t.fpr
      3#5).z, t.pc))
      = some (0xBEAAAAAB#32, true, false, false, 65#30) := by decide

/-- FP-30: `mult.d F4,F0,F2` -/
theorem test_fp_30 :
    (run 0xC0041620 (regs start [] [(0#5, ⟨0xffffffff#32, false, false, false⟩), (1#5, ⟨0x7fefffff#32, false,
      false, false⟩), (2#5, ⟨0x0#32, false, false, false⟩), (3#5, ⟨0x40000000#32, false, false, false⟩)])).map
      (fun t => (t.freg 5#5, (t.fpr 5#5).a, (t.fpr 5#5).i, (t.fpr 5#5).z, t.cr, t.pc))
      = some (0x7FF00000#32, true, true, false, 0x00001000#32, 65#30) := by decide

/-- LG-3: `inv.l R2,R4` -/
theorem test_lg_3 :
    (run 0x80820260 (regs start [(4#5, ⟨0x0#32, false, false, false⟩), (5#5, ⟨0xffffffff#32, false, false,
      false⟩)] [])).map (fun t => (t.reg 2#5, (t.gpr 3#5).z, t.pc))
      = some (0xFFFFFFFF#32, false, 65#30) := by decide

/-- LG-15: `xor.l R4,R0,R2` -/
theorem test_lg_15 :
    (run 0xC0041270 (regs start [(0#5, ⟨0xffffffff#32, false, false, false⟩), (1#5, ⟨0xffffffff#32, false,
      false, false⟩), (2#5, ⟨0xffffffff#32, false, false, false⟩), (3#5, ⟨0x7fffffff#32, false, false, false⟩)]
      [])).map (fun t => (t.reg 5#5, (t.gpr 5#5).z, t.pc))
      = some (0x80000000#32, false, 65#30) := by decide

/-- LG-19: `srl.w R3,R1,R2` -/
theorem test_lg_19 :
    (run 0xC02310C0 (regs start [(1#5, ⟨0x1#32, false, false, false⟩), (2#5, ⟨0x1#32, false, false, false⟩)]
      [])).map (fun t => ((t.gpr 3#5).z, t.pc))
      = some (true, 65#30) := by decide

/-- CT-5: `j 1` -/
theorem test_ct_5 :
    (run 0x00000001 (regs { start with pc := 0x3fffffff#30 } [] [])).map (fun t => (t.pc))
      = some (1#30) := by decide

/-- CT-13: `jal R31,-65` -/
theorem test_ct_13 :
    (run 0x441FFFBF (regs start [] [])).map (fun t => (t.reg 31#5, t.pc))
      = some (0x00000104#32, 0#30) := by decide

/-- CT-21: `bz R1,-2` -/
theorem test_ct_21 :
    (run 0x4825FFFE (regs start [(1#5, ⟨0x0#32, false, false, true⟩)] [])).map (fun t => (t.pc))
      = some (63#30) := by decide

/-- CT-41: `bfpnan F1,3` -/
theorem test_ct_41 :
    (run 0x48380003 (regs start [] [(1#5, ⟨0x0#32, false, false, false⟩)])).map (fun t => (t.pc))
      = some (68#30) := by decide

/-- CT-49: `bz R1,-65536` -/
theorem test_ct_49 :
    (run 0x48250000 (regs { start with pc := 0x10000#30 } [(1#5, ⟨0x0#32, false, false, true⟩)] [])).map (fun t
      => (t.pc))
      = some (1#30) := by decide

/-- CT-53: `rfe` -/
theorem test_ct_53 :
    (run 0x20000000 (regs (State.setLink { start with mr := 0x100000002#33 } 0#5 0x800000123#36) [] [])).map
      (fun t => (t.cfg, t.mr.getLsbD 32, t.pc))
      = some (0x01#6, false, 291#30) := by decide

/-- CV-1: `cnvf2d F2,F1` -/
theorem test_cv_1 :
    (run 0x80220030 (regs start [] [(1#5, ⟨0x3fc00000#32, false, false, false⟩)])).map (fun t => (t.freg 3#5,
      (t.fpr 3#5).a, (t.fpr 3#5).i, (t.fpr 3#5).z, t.pc))
      = some (0x3FF80000#32, true, false, false, 65#30) := by decide

/-- CV-9: `cnvf2w R1,F2` -/
theorem test_cv_9 :
    (run 0x80410430 (regs start [] [(2#5, ⟨0x80000000#32, false, false, false⟩)])).map (fun t => ((t.gpr 1#5).z,
      t.pc))
      = some (true, 65#30) := by decide

/-- CV-13: `cnvw2f F1,R2` -/
theorem test_cv_13 :
    (run 0x80410630 (regs start [(2#5, ⟨0x1000000#32, false, false, false⟩)] [])).map (fun t => (t.freg 1#5,
      (t.fpr 1#5).a, (t.fpr 1#5).i, (t.fpr 1#5).z, t.pc))
      = some (0x4B800000#32, true, false, false, 65#30) := by decide

/-- CV-17: `cnvw2d F2,R1` -/
theorem test_cv_17 :
    (run 0x80220240 (regs start [(1#5, ⟨0x80000000#32, false, false, false⟩)] [])).map (fun t => (t.freg 3#5,
      (t.fpr 3#5).a, (t.fpr 3#5).i, (t.fpr 3#5).z, t.pc))
      = some (0xC1E00000#32, true, false, false, 65#30) := by decide

/-- CV-25: `cnvd2l R2,F5` -/
theorem test_cv_25 :
    (run 0x80A20050 (regs start [] [])).map (fun t => (t.cr, t.pc))
      = some (0x00000020#32, 65#30) := by decide

/-- C1-7: `sin.d F2,F3` -/
theorem test_c1_7 :
    (run 0x80620720 (regs start [] [])).map (fun t => (t.cr, t.pc))
      = some (0x00000020#32, 65#30) := by decide

/-- C1-11: `sin.f F1,F2` -/
theorem test_c1_11 :
    (run 0x80410520 (regs { start with params := { Config.Params.standard with hasCordic := false, hasFpu :=
      false } } [] [])).map (fun t => (t.cr, t.pc))
      = some (0x00000004#32, 65#30) := by decide

/-- C2-3: `norm.l R4,R0,R3` -/
theorem test_c2_3 :
    (run 0xC0041B40 (regs start [] [])).map (fun t => (t.cr, t.pc))
      = some (0x00000010#32, 65#30) := by decide
/-- EX-2: of E3, masked, and E6, pending, E6 is entered and the handler's `j -1` runs in the same step. -/
theorem test_ex_2 :
    (step (({ start with cr := 0x48#32, mr := 0x8#33 } : State).placeWord 6#30 0x0FFFFFFF#32) matches .next _) = true
    ∧ ({ start with cr := 0x48#32, mr := 0x8#33 } : State).begin.pc = 6#30
    ∧ ({ start with cr := 0x48#32, mr := 0x8#33 } : State).begin.mr = 0x100000008#33
    ∧ ({ start with cr := 0x48#32, mr := 0x8#33 } : State).begin.cr = 0x8#32
    ∧ ({ start with cr := 0x48#32, mr := 0x8#33 } : State).begin.link 0#5 = 0x800000040#36 := by decide

/-- TM-2: auto stop. -/
theorem test_tm_2 :
    let s : State := { start with cfg := 0x04#6, stp := 1#22, tmr := 2#32 }
    (s.timerTick.tmr, s.timerTick.timerTick.tmr, s.timerTick.timerTick.cr, s.timerTick.timerTick.timerTick.tmr)
      = (1#32, 0#32, 2#32, 0#32) := by decide

/-- EX-9: a Reset among the events, then `j 31` at word 0 in the same step. -/
theorem test_ex_9 :
    (run 0x1F (regs { start with inputs := [[.tick, .reset]], cr := 0x40#32, tmr := 7#32 }
      [(1#5, ⟨5#32, true, true, true⟩)] [])).map (fun t => (t.pc, t.cr, t.tmr, t.gpr 1#5, t.link 0#5))
      = some (32#30, 0#32, 0#32, ⟨0#32, false, false, false⟩, 0x800000000#36) := by decide

/-! ### States and operands that meet the hypotheses of the statements -/

/-- User mode. -/
def user : State := { start with cfg := 1#6 }
/-- Nesting on. -/
def nested : State := { start with cfg := 2#6 }
/-- `start` with other parameters. -/
def withParams (f : Config.Params → Config.Params) : State := { start with params := f start.params }

/-- The first and the last even register, which the statements about pairs take. -/
def evenEnds : Prop := (0#5 : RegNum).getLsbD 0 = false ∧ (30#5 : RegNum).getLsbD 0 = false
/-- The first and the last odd register. -/
def oddEnds : Prop := (1#5 : RegNum).getLsbD 0 = true ∧ (31#5 : RegNum).getLsbD 0 = true
/-- An implementation with the other `ASYNC_RETURN`, in the state after a jump from word 5 to word 64. -/
def lastPcPlus1 : State := { withParams ({ · with asyncReturn := .lastPcPlus1 }) with lastPc := 5#30 }
/-- An implementation without an FPU, and one without the cordic unit. -/
def noFpu : State := withParams ({ · with hasFpu := false })
def noCordic : State := withParams ({ · with hasCordic := false })

/-- `ASYNC_RETURN` (spec/00_scope.md R5): after a taken jump from word 5 to word 64 the timer's exception saves 64 or 6, a
synchronous one 64. -/
theorem test_async_return :
    (start.enter 1).link 0#5 = 0x800000040#36 ∧ (lastPcPlus1.enter 1).link 0#5 = 0x800000006#36
    ∧ (lastPcPlus1.enter 30).link 0#5 = 0x800000006#36 ∧ (lastPcPlus1.enter 2).link 0#5 = 0x800000040#36 := by decide
/-- A step notes the index it fetches from. -/
theorem test_last_pc : (run 0 start).map (fun t => (t.lastPc, t.pc)) = some (64#30, 65#30) := by decide
/-- An input without a tick lets one clock pass, one with ticks just those (spec/60_exceptions.md R543, R544). -/
theorem test_one_clock_at_least :
    start.environment.tmr = 0x3FF#32
    ∧ ({ start with inputs := [[.tick, .tick]] } : State).environment.tmr = 0x3FE#32 := by decide
/-- Log 31: a cordic word with a non-zero undefined bit is refused without the cordic unit too. -/
theorem test_cordic_undefined_bit :
    (step (noCordic.withFetchWord 32 0x80000101) matches .refused .undefinedBits) = true
    ∧ (run 0x80000100 noCordic).map (fun t => t.cr) = some 4#32 := by decide

theorem test_meets_PairMovesCopyBothHalves : evenEnds := by unfold evenEnds; decide
theorem test_meets_PairMovesOddRaise : oddEnds ∧ evenEnds := by unfold oddEnds evenEnds; decide
theorem test_meets_AddSubLong : evenEnds := by unfold evenEnds; decide
theorem test_meets_Logic : evenEnds := by unfold evenEnds; decide
theorem test_meets_OddLongRaises : oddEnds ∧ start.params.multLMode = .pairByPair := by unfold oddEnds; decide
theorem test_meets_FpuTraps : noFpu.params.hasFpu = false ∧ start.params.hasFpu = true ∧ oddEnds := by
  unfold oddEnds; decide
theorem test_meets_CordicSingle : start.params.hasCordic = true ∧ start.params.hasFpu = true := by decide
theorem test_meets_CordicPair : start.params.hasCordic = true ∧ start.params.hasFpu = true ∧ evenEnds := by
  unfold evenEnds; decide
theorem test_meets_CordicTraps :
    noCordic.params.hasCordic = false ∧ noFpu.params.hasCordic = true ∧ noFpu.params.hasFpu = false
    ∧ start.params.hasCordic = true ∧ start.params.hasFpu = true ∧ oddEnds := by unfold oddEnds; decide
theorem test_meets_ConversionsComplete : start.params.hasFpu = true ∧ evenEnds := by unfold evenEnds; decide
theorem test_meets_ConversionTraps :
    noFpu.params.hasFpu = false ∧ start.params.hasFpu = true ∧ oddEnds ∧ evenEnds := by
  unfold oddEnds evenEnds; decide

theorem test_meets_PrivilegedInUserModeRaises : user.cfg.getLsbD 0 = true := by decide

theorem test_meets_ReadSpecialRegister :
    let s : State := { start with cfg := 0b110110#6, mr := 0x180000001#33, stp := 0x3FFFFF#22 }
    s.cfg.getLsbD 0 = false
    ∧ (0x36#32).toNat = (s.cfg.getLsbD 0).toNat + 2 * (s.params.hasLrs && s.cfg.getLsbD 1).toNat
        + 4 * (s.cfg.getLsbD 2).toNat + 16 * (s.cfg.getLsbD 4).toNat + 32 * (s.cfg.getLsbD 5).toNat
    ∧ (0x3FFFFF#32).toNat = s.stp.toNat ∧ (0x80000001#32).toNat = s.mr.toNat % 2 ^ 32 ∧ (0#32) = s.pra
    ∧ 9 ≤ (9#5 : RegNum).toNat ∧ 9 ≤ (31#5 : RegNum).toNat := by decide

theorem test_meets_WriteSpecialRegister :
    start.cfg.getLsbD 0 = false ∧ 9 ≤ (9#5 : RegNum).toNat ∧ 9 ≤ (31#5 : RegNum).toNat := by decide

/-- LoadsReadMemory and StoresWriteMemory, at the top of the address space. -/
theorem test_meets_LoadsReadMemory :
    populated start.params (start.ea 0#5 0xFFFF#16).toNat 1 = true
    ∧ (start.ea 0#5 0xFFFE#16).toNat % 2 = 0 ∧ populated start.params (start.ea 0#5 0xFFFE#16).toNat 2 = true
    ∧ (start.ea 0#5 0xFFFC#16).toNat % 4 = 0 ∧ populated start.params (start.ea 0#5 0xFFFC#16).toNat 4 = true := by decide

theorem test_meets_StoresWriteMemory : start.dm.wf = true ∧ start.ea 0#5 0xFFFC#16 = 0xFFFFFFFC#32 := by decide

theorem test_meets_MisalignedAccessRaises :
    ((start.reg 0#5).toInt + (0xFFFF#16).toInt) % 2 ≠ 0 ∧ ((start.reg 0#5).toInt + (2#16).toInt) % 4 ≠ 0
    ∧ (∃ t, exec (.storeB 1#5 0#5 0xFFFF#16) start = .next t)
    ∧ ((start.reg 0#5).toInt + (0xFFFE#16).toInt) % 2 = 0 ∧ (∃ t, exec (.loadH 1#5 0#5 0xFFFE#16) start = .next t)
    ∧ ((start.reg 0#5).toInt + (0xFFFC#16).toInt) % 4 = 0 ∧ (∃ t, exec (.storeF 1#5 0#5 0xFFFC#16) start = .next t) :=
  ⟨by decide, by decide, ⟨_, rfl⟩, by decide, ⟨_, rfl⟩, by decide, ⟨_, rfl⟩⟩

theorem test_meets_UnpopulatedAccessStops :
    let s := withParams ({ · with dmPopulated := [⟨0, 3⟩] })
    populated s.params (s.ea 0#5 3#16).toNat 1 = false
    ∧ (s.ea 0#5 2#16).toNat % 2 = 0 ∧ populated s.params (s.ea 0#5 2#16).toNat 2 = false
    ∧ (s.ea 0#5 0#16).toNat % 4 = 0 ∧ populated s.params (s.ea 0#5 0#16).toNat 4 = false := by decide

theorem test_meets_StoredWordReadsBack :
    start.dm.wf = true ∧ (start.ea 0#5 0xFFFC#16).toNat % 4 = 0
    ∧ ∃ t, exec (.storeW 1#5 0#5 0xFFFC#16) start = .next t
      ∧ t.ea 0#5 0xFFFF#16 = start.ea 0#5 0xFFFC#16 + BitVec.ofNat 32 3
      ∧ (∃ u, exec (.loaduB 2#5 0#5 0xFFFF#16) t = .next u)
      ∧ t.ea 0#5 0xFFFE#16 = start.ea 0#5 0xFFFC#16 + BitVec.ofNat 32 (2 * 1)
      ∧ (∃ u, exec (.loaduH 2#5 0#5 0xFFFE#16) t = .next u)
      ∧ (∃ u, exec (.loadW 2#5 0#5 0xFFFC#16) t = .next u) :=
  ⟨by decide, by decide, _, rfl, by decide, ⟨_, rfl⟩, by decide, ⟨_, rfl⟩, ⟨_, rfl⟩⟩

/-- AddWord and SubWord: the extended immediates at the ends of their ranges. -/
theorem test_meets_AddWord :
    (0xFFFF8000#32).toInt = (0x8000#16).toInt ∧ (0x7FFF#32).toInt = (0x7FFF#16).toInt
    ∧ (0xFFFF#32).toNat = (0xFFFF#16).toNat ∧ (0#32) = start.reg 2#5 := by decide
theorem test_meets_SubWord :
    (0xFFFF8000#32).toInt = (0x8000#16).toInt ∧ (0xFFFF#32).toNat = (0xFFFF#16).toNat ∧ (0#32) = start.reg 2#5 := by decide

theorem test_meets_Multiply :
    start.params.multLMode = .pairByPair
    ∧ (withParams ({ · with multLMode := .wordByWord })).params.multLMode = .wordByWord := by decide

theorem test_meets_DivideWord :
    (regs start [(2#5, ⟨0xFFFFFFFF#32, false, false, false⟩)] []).reg 2#5 ≠ 0#32 := by decide
theorem test_meets_DivideLong :
    (regs start [(3#5, ⟨1#32, false, false, false⟩)] []).pair 2#5 ≠ 0#64 ∧ evenEnds := by unfold evenEnds; decide
theorem test_meets_DivideByZeroRaises : start.reg 2#5 = 0#32 ∧ start.pair 2#5 = 0#64 ∧ evenEnds := by
  unfold evenEnds; decide

/-- ShiftWord and ShiftLong: amounts 0 and the greatest. -/
theorem test_meets_ShiftWord :
    (0 : Nat) = ((regs start [(2#5, ⟨32#32, false, false, false⟩)] []).reg 2#5).toNat % 32
    ∧ (31 : Nat) = ((regs start [(2#5, ⟨63#32, false, false, false⟩)] []).reg 2#5).toNat % 32 := by decide
theorem test_meets_ShiftLong :
    evenEnds ∧ (0 : Nat) = ((regs start [(2#5, ⟨64#32, false, false, false⟩)] []).reg 2#5).toNat % 64
    ∧ (63 : Nat) = ((regs start [(2#5, ⟨63#32, false, false, false⟩)] []).reg 2#5).toNat % 64 := by
  unfold evenEnds; decide

theorem test_meets_FpuCompletes :
    start.params.hasFpu = true
    ∧ [0x00#6, 0x10#6, 0x20#6, 0x30#6].map (fun c => (c.getLsbD 5, c.getLsbD 4))
      = [(false, false), (false, true), (true, false), (true, true)]
    ∧ FpVal.fin false 0 FpFmt.single.ulpMin = unpack .single (start.freg 1#5).toNat
    ∧ evenEnds := by unfold evenEnds; decide

theorem test_meets_RoundingIsCorrect :
    (FpFmt.single = .single ∨ FpFmt.single = .double) ∧ (1 : Nat) ≠ 0 := by decide

theorem test_meets_SumsAndProductsCorrectlyRounded :
    finValue false 1 0 + finValue false 1 1 ≠ 0 ∧ finValue false 1 0 - finValue false 1 1 ≠ 0
    ∧ finValue false 1 0 * finValue false 1 1 ≠ 0 ∧ finValue false 2 0 = finValue false 1 1 := by
  norm_num [finValue]

theorem test_meets_QuotientsCorrectlyRounded :
    (FpFmt.double = .single ∨ FpFmt.double = .double) ∧ (1 : Nat) ≠ 0 ∧ (3 : Nat) ≠ 0 := by decide

/-- The operand bits of each clause of FpuSpecialOperands: NaNs, signalling or not, infinities of both signs, zeros of both
signs, the least and the greatest finite number, a number and its negation. -/
theorem test_meets_FpuSpecialOperands :
    start.params.hasFpu = true ∧ evenEnds
    ∧ ((class32 0x7F800001#32).signalling ∧ (class32 0xFFC00000#32).nan ∧ ¬(class32 0xFFC00000#32).signalling)
    ∧ ((class32 0x7F800000#32).inf ∧ (class32 0xFF800000#32).inf ∧ (class32 0xFF800000#32).neg = true)
    ∧ ((class32 0#32).zero ∧ (class32 0x80000000#32).zero ∧ (class32 0x80000000#32).finite)
    ∧ ((class32 1#32).finite ∧ ¬(class32 1#32).zero ∧ (class32 0xFF7FFFFF#32).finite)
    ∧ 0xFF7FFFFF#32 = 0x7F7FFFFF#32 ^^^ 0x80000000#32 := by
  unfold evenEnds class32 FpClass.finite IsInf32 IsZero32 IsNan32; decide
theorem test_meets_FpuSpecialOperands_double :
    ((class64 0x7FF0000000000001#64).signalling ∧ (class64 0xFFF8000000000000#64).nan
      ∧ ¬(class64 0xFFF8000000000000#64).signalling)
    ∧ ((class64 0x7FF0000000000000#64).inf ∧ (class64 0xFFF0000000000000#64).inf)
    ∧ ((class64 0#64).zero ∧ (class64 0x8000000000000000#64).zero ∧ (class64 0x8000000000000000#64).finite)
    ∧ ((class64 1#64).finite ∧ ¬(class64 1#64).zero ∧ (class64 0xFFEFFFFFFFFFFFFF#64).finite)
    ∧ 0xFFEFFFFFFFFFFFFF#64 = 0x7FEFFFFFFFFFFFFF#64 ^^^ 0x8000000000000000#64 := by
  unfold class64 FpClass.finite IsInf64 IsZero64 IsNan64; decide

theorem test_meets_Jump :
    start.params.jDispBits = .bits26 ∧ (withParams ({ · with jDispBits := .bits28 })).params.jDispBits = .bits28
    ∧ Instr.jumpCanonical (.j 0x1FFFFFF#28) = true ∧ Instr.jumpCanonical (.j 0xE000000#28) = true := by decide

theorem test_meets_TrapAndReturn :
    start.cfg.getLsbD 0 = false ∧ (start.params.hasLrs && start.cfg.getLsbD 1) = false
    ∧ nested.cfg.getLsbD 0 = false ∧ (nested.params.hasLrs && nested.cfg.getLsbD 1) = true := by decide

/-- Integers at the ends of the exact ranges: the least long, and the greatest word and longs of 24 and 53 significant
bits; 0 and 2^24. -/
theorem test_meets_IntegerToFloatExact :
    let s := regs start [(2#5, ⟨0#32, false, false, false⟩), (3#5, ⟨0x80000000#32, false, false, false⟩),
      (4#5, ⟨0x7FFFFF80#32, false, false, false⟩), (6#5, ⟨0xFFFFFC00#32, false, false, false⟩),
      (7#5, ⟨0x7FFFFFFF#32, false, false, false⟩), (8#5, ⟨0x1000000#32, false, false, false⟩)] []
    s.params.hasFpu = true ∧ evenEnds
    ∧ ((s.pair 2#5).toInt.natAbs = 1 * 2 ^ 63 ∧ 1 < 2 ^ 24 ∧ 1 < 2 ^ 53)
    ∧ ((s.reg 4#5).toInt.natAbs = (2 ^ 24 - 1) * 2 ^ 7 ∧ (s.pair 4#5).toInt.natAbs = (2 ^ 24 - 1) * 2 ^ 7
      ∧ 2 ^ 24 - 1 < 2 ^ 24)
    ∧ ((s.pair 6#5).toInt.natAbs = (2 ^ 53 - 1) * 2 ^ 10 ∧ 2 ^ 53 - 1 < 2 ^ 53)
    ∧ (s.reg 2#5).toInt.natAbs = 0 * 2 ^ 0 ∧ (s.reg 8#5).toInt.natAbs = 1 * 2 ^ 24 := by unfold evenEnds; decide

/-- The least integers of the destinations, and the greatest word as a double. -/
theorem test_meets_FloatToIntegerExact :
    unpack .single 0xCF000000 = .fin true 0x800000 8 ∧ finValue true 0x800000 8 = ((-2 ^ 31 : Int) : ℚ)
    ∧ unpack .double 0x41DFFFFFFFC00000 = .fin false 0x1FFFFFFFC00000 (-22)
    ∧ finValue false 0x1FFFFFFFC00000 (-22) = ((2 ^ 31 - 1 : Int) : ℚ)
    ∧ unpack .single 0xDF000000 = .fin true 0x800000 40 ∧ finValue true 0x800000 40 = ((-2 ^ 63 : Int) : ℚ)
    ∧ unpack .double 0xC3E0000000000000 = .fin true 0x10000000000000 11
    ∧ finValue true 0x10000000000000 11 = ((-2 ^ 63 : Int) : ℚ) := by
  refine ⟨by decide, ?_, by decide, ?_, by decide, ?_, by decide, ?_⟩ <;> norm_num [finValue]

/-- Infinities, the least positive float, and it as a double; minus zero both ways. -/
theorem test_meets_FloatToDoubleExact :
    unpack .single 0xFF800000 = .inf true ∧ unpack .single 1 = .fin false 1 (-149)
    ∧ unpack .double 0xFFF0000000000000 = .inf true
    ∧ unpack .double 0x36A0000000000000 = .fin false 0x10000000000000 (-201)
    ∧ finValue false 1 (-149) = finValue false 0x10000000000000 (-201)
    ∧ unpack .double 0x8000000000000000 = .fin true 0 (-1074) ∧ unpack .single 0x80000000 = .fin true 0 (-149)
    ∧ finValue true 0 (-149) = finValue true 0 (-1074) := by
  refine ⟨by decide, by decide, by decide, by decide, ?_, by decide, by decide, ?_⟩ <;> norm_num [finValue]

theorem test_meets_EntryEffect :
    (start.params.hasLrs && start.cfg.getLsbD 1) = false ∧ (nested.params.hasLrs && nested.cfg.getLsbD 1) = true
    ∧ (1 ≤ 1 ∧ 1 ≤ 31 ∧ 1 ≤ 31 ∧ 31 ≤ 31)
    ∧ start.params.asyncReturn = .nextPc ∧ lastPcPlus1.params.asyncReturn = .lastPcPlus1 := by decide

/-- The masked E3 below the enabled E6, nothing pending, and a Reset. -/
theorem test_meets_DetectionEntersLowestEnabled :
    let s : State := { start with cr := 0x48#32, mr := 0x8#33 }
    s.cr.getLsbD 6 = true ∧ s.enabled 6 = true
    ∧ (∀ j, j < 6 → ¬(s.cr.getLsbD j = true ∧ s.enabled j = true)) ∧ (∀ k, k < 32 → ¬start.cr.getLsbD k = true)
    ∧ ({ start with inputs := [[.tick, .reset]] } : State).inputs = [EnvEvent.tick, .reset] :: []
    ∧ EnvEvent.reset ∈ [EnvEvent.tick, .reset] := by decide

/-- An input without a tick, one with two, a list at its end. -/
theorem test_meets_EnvironmentEvents :
    let s : State := { start with inputs := [[.irqRaise none], [.tick, .peripheralPost 1#32 2#32, .tick]] }
    s.inputs = [.irqRaise none] :: s.inputs.tail ∧ .reset ∉ [EnvEvent.irqRaise none] ∧ .tick ∉ [EnvEvent.irqRaise none]
    ∧ s.inputs.tail = [.tick, .peripheralPost 1#32 2#32, .tick] :: []
    ∧ EnvEvent.reset ∉ [.tick, .peripheralPost 1#32 2#32, .tick] ∧ EnvEvent.tick ∈ [.tick, .peripheralPost 1#32 2#32, .tick]
    ∧ State.reset.inputs = [] := by decide

theorem test_meets_TimerTick :
    let at' (n : Word) (c : BitVec 6) : State := { start with tmr := n, cfg := c }
    1 < (at' 2#32 0#6).tmr.toNat ∧ (at' 1#32 0#6).tmr.toNat = 1
    ∧ ((at' 0#32 0#6).tmr.toNat = 0 ∧ (at' 0#32 0#6).cfg.getLsbD 2 = false)
    ∧ ((at' 0#32 4#6).tmr.toNat = 0 ∧ (at' 0#32 4#6).cfg.getLsbD 2 = true) := by decide

theorem test_meets_ResetValues :
    ({ start with inputs := [[.irqRaise none, .reset], []] } : State).inputs = [.irqRaise none, .reset] :: [[]]
    ∧ EnvEvent.reset ∈ [EnvEvent.irqRaise none, .reset] := by decide

/-- A trap where the next step fetches; no event but the clock and no pending cause. -/
theorem test_meets_StepRunsDecoded :
    let b := (start.withFetchWord 32 0x10000000).environment.detect
    b.im.read (4 * b.pc.toNat) = some 0x10#8 ∧ b.im.read (4 * b.pc.toNat + 1) = some 0#8
    ∧ b.im.read (4 * b.pc.toNat + 2) = some 0#8 ∧ b.im.read (4 * b.pc.toNat + 3) = some 0#8
    ∧ decodeBytes b.params [0x10#8, 0#8, 0#8, 0#8] = some (.ok .trap, [])
    ∧ start.inputs = [] :: []
    ∧ ({ start with inputs := [[.tick]] } : State).inputs = [.tick] :: []
    ∧ start.timerTick.pendingCause = none := by decide

theorem test_meets_StepOnOtherWords :
    start.environment.detect.codeWord start.environment.detect.pc = none
    ∧ (start.withFetchWord 32 0x30000000).codeWord 64#30 = some 0x30000000#32
    ∧ select start.params 0x30000000#32 = none
    ∧ select start.params 0x10000001#32 = some .trap ∧ 0x10000001#32 &&& undefinedMask 0x10000001#32 ≠ 0#32
    ∧ start.params.undefBits = .refuse
    ∧ (withParams ({ · with undefBits := .ignore })).params.undefBits = .ignore
    ∧ (withParams ({ · with undefBits := .raiseE2 })).params.undefBits = .raiseE2 := by decide

theorem test_meets_DecodeOfEncode :
    Config.Params.standard.opcodesDistinct = true
    ∧ ({ Config.Params.standard with opLoadi := 15#4, opLoadui := 3#4, opLhi := 14#4 } : Config.Params).opcodesDistinct = true := by
  decide
theorem test_meets_EncodeOfDecode :
    decode Config.Params.standard 0xC00412B0#32 = .ok (.sraL 4#5 0#5 2#5) := by decide

theorem test_meets_StepKeepsInv :
    let s := start.withFetchWord 32 0x10000000
    s.Inv ∧ ∃ t, step s = .next t :=
  ⟨⟨by decide, by decide, by decide, by decide, by decide, by decide, by decide, by decide⟩, _, rfl⟩
theorem test_meets_StepKeepsCode : ∃ t, step (start.withFetchWord 32 0) = .next t := ⟨_, rfl⟩

theorem test_meets_UserModeKeepsSystem :
    (∃ t, exec .trap user = .next t) ∧ user.cfg.getLsbD 0 = true ∧ (∃ t, exec (.jr 1#5) start = .next t)
    ∧ Instr.jr 1#5 ≠ .rfe ∧ ∀ k r, Instr.jr 1#5 ≠ .movw2s k r :=
  ⟨⟨_, rfl⟩, by decide, ⟨_, rfl⟩, by simp, by simp⟩

/-- A Reset, a supervisor state, an instruction that changes the mode, and a step from user mode into a handler. -/
theorem test_meets_ModeTransitions :
    EnvEvent.reset ∈ [EnvEvent.reset] ∧ start.cfg.getLsbD 0 = false
    ∧ (∃ t, exec .rfe start = .next t ∧ t.cfg.getLsbD 0 ≠ start.cfg.getLsbD 0)
    ∧ ∃ t, step (({ user with cr := 0x80000000#32 } : State).withFetchWord 32 0) = .next t
      ∧ user.cfg.getLsbD 0 = true ∧ t.cfg.getLsbD 0 = false :=
  ⟨by decide, by decide, ⟨_, rfl, by decide⟩, _, rfl, by decide, by decide⟩

theorem test_meets_OnlyLoadsAndStoresReachData :
    (∃ t, exec (.loadB 1#5 0#5 0#16) start = .next t) ∧ (∃ t, exec (.jr 1#5) start = .next t)
    ∧ ∀ r b d, Instr.jr 1#5 ≠ .storeB r b d ∧ Instr.jr 1#5 ≠ .loadB r b d :=
  ⟨⟨_, rfl⟩, ⟨_, rfl⟩, by simp⟩

/-- A step that clears the cause it enters. -/
theorem test_meets_CausesStayPending :
    let s := ({ start with cr := 0x80000000#32 } : State).withFetchWord 32 0
    ∃ t, step s = .next t ∧ s.cr.getLsbD 31 = true ∧ t.cr.getLsbD 31 = false :=
  ⟨_, rfl, by decide, by decide⟩

theorem test_meets_AtRestStaysAtRest :
    let s := ({ start with inputs := [List.replicate 3 .tick], mr := 2#33 } : State).placeWord 64#30 0x0FFFFFFF#32
    s.inputs = List.replicate 3 .tick :: [] ∧ s.codeWord s.pc = some 0x0FFFFFFF#32 ∧ s.pendingCause = none
    ∧ s.mr.getLsbD 1 = true := by decide

end Sys2Proof.Tests
end

/-! SUPPORT. What an instruction can do to the state: one inversion lemma for `exec`, from which the statements about
every instruction follow. -/

namespace Sys2Proof.Machine

variable {s t u : State}

/-! ### Instructions that leave the system alone -/

/-- The causes an instruction may set: E2 to E13 and E31 (spec/60_exceptions.md R519). -/
def isInstrCause (k : Nat) : Bool := 2 ≤ k && k ≤ 13 || k == 31

theorem isInstrCause_iff {k : Nat} : isInstrCause k = true ↔ 2 ≤ k ∧ k ≤ 13 ∨ k = 31 := by
  simp [isInstrCause]

/-- What every instruction but the stores, movw2s and rfe does: it writes GPRs, FPRs and PC and sets causes of its own;
no other part of the state changes (the counter of draws apart). -/
structure Ordinary (s t : State) : Prop where
  system : SameSystem s t
  ir : t.ir = s.ir
  data : t.dm = s.dm
  causesKept : ∀ k, s.cr.getLsbD k = true → t.cr.getLsbD k = true
  causesAdded : ∀ k, t.cr.getLsbD k = true → s.cr.getLsbD k = true ∨ isInstrCause k = true

theorem SameSystem.refl (s : State) : SameSystem s s :=
  ⟨rfl, rfl, rfl, rfl, rfl, rfl, rfl, rfl, rfl, rfl, rfl, rfl, rfl, rfl, rfl, rfl⟩

theorem SameSystem.trans (h : SameSystem s t) (g : SameSystem t u) : SameSystem s u where
  params := g.params.trans h.params
  inputs := g.inputs.trans h.inputs
  cfg := g.cfg.trans h.cfg
  stp := g.stp.trans h.stp
  mr := g.mr.trans h.mr
  tmr := g.tmr.trans h.tmr
  pwd := g.pwd.trans h.pwd
  pwa := g.pwa.trans h.pwa
  prd := g.prd.trans h.prd
  pra := g.pra.trans h.pra
  links := g.links.trans h.links
  esp := g.esp.trans h.esp
  iack := g.iack.trans h.iack
  im := g.im.trans h.im
  lastPc := g.lastPc.trans h.lastPc
  periphOut := g.periphOut.trans h.periphOut

namespace Ordinary

theorem trans (h : Ordinary s t) (g : Ordinary t u) : Ordinary s u where
  system := h.system.trans g.system
  ir := g.ir.trans h.ir
  data := g.data.trans h.data
  causesKept k hk := g.causesKept k (h.causesKept k hk)
  causesAdded k hk := (g.causesAdded k hk).elim (h.causesAdded k) .inr

/-- Registers, PC and the counter of draws may take any value. -/
theorem of_registers (s : State) (gprs : Vector Gpr 32) (fprs : Vector Fpr 32) (pc : WordIdx) (drawn : Nat) :
    Ordinary s { s with gprs := gprs, fprs := fprs, pc := pc, drawn := drawn } :=
  ⟨{ SameSystem.refl s with }, rfl, rfl, fun _ h => h, fun _ h => .inl h⟩

theorem refl (s : State) : Ordinary s s := of_registers s s.gprs s.fprs s.pc s.drawn
theorem setGpr (s : State) (r : RegNum) (g : Gpr) : Ordinary s (s.setGpr r g) := of_registers s _ s.fprs s.pc s.drawn
theorem setFpr (s : State) (r : RegNum) (g : Fpr) : Ordinary s (s.setFpr r g) := of_registers s s.gprs _ s.pc s.drawn
theorem jump (s : State) (pc : WordIdx) : Ordinary s { s with pc := pc } := of_registers s s.gprs s.fprs pc s.drawn
theorem draw (s : State) : Ordinary s s.draw := of_registers s s.gprs s.fprs s.pc _

theorem advance (h : Ordinary s t) : Ordinary s t.advance := h.trans (jump t _)

theorem writeL (s : State) (d : RegNum) (o : AluOut 64) : Ordinary s (s.writeL d o) :=
  ((setGpr s d _).trans (setGpr _ (d + 1#5) _)).trans (draw _)

theorem writeD (s : State) (d : RegNum) (o : FpOut 64) : Ordinary s (s.writeD d o) :=
  ((setFpr s d _).trans (setFpr _ (d + 1#5) _)).trans (draw _)

theorem pend (s : State) {k : Nat} (hk : isInstrCause k = true) : Ordinary s (s.pend k) where
  system := { SameSystem.refl s with }
  ir := rfl
  data := rfl
  causesKept j hj := by
    rw [State.cr_pend_bit s (BitVec.lt_of_getLsbD hj), hj, Bool.or_true]
  causesAdded j hj := by
    rw [State.cr_pend_bit s (BitVec.lt_of_getLsbD hj), Bool.or_eq_true, decide_eq_true_eq] at hj
    exact hj.symm.imp_right fun h : j = k => h ▸ hk

theorem pendIf (s : State) (b : Bool) {k : Nat} (hk : isInstrCause k = true) : Ordinary s (s.pendIf b k) := by
  cases b
  · exact refl s
  · exact pend s hk

theorem pendCauses (s : State) (c : Causes) : Ordinary s (s.pendCauses c) :=
  (((pendIf s _ rfl).trans (pendIf _ _ rfl)).trans
    (pendIf _ _ rfl)).trans (pendIf _ _ rfl)

theorem raise (s : State) (k : Nat) (hk : isInstrCause k = true) : Ordinary s (s.raise k) := (pend s hk).advance

end Ordinary

/-! ### The operand forms leave the system alone -/

theorem ordinary_done (h : Ordinary s u) (hd : done u = .next t) : Ordinary s t := by
  obtain rfl := done_next hd
  exact h.advance

theorem ordinary_checked {b : Bool} {k : Nat} (hk : isInstrCause k = true) {r : Result}
    (hr : r = .next t → Ordinary s t) (h : (if b then .next (s.raise k) else r) = .next t) : Ordinary s t := by
  split at h
  · cases h; exact .raise s k hk
  · exact hr h

theorem ordinary_withAccess {n : Nat} {a : Word} (hu : Ordinary s u) (h : withAccess s n a (done u) = .next t) :
    Ordinary s t := by
  obtain ⟨_, rfl⟩ | ⟨_, _, h⟩ := withAccess_next h
  · exact .raise s 3 rfl
  · exact ordinary_done hu h

theorem ordinary_binaryW {op : Word → Word → AluOut 32} {dst s1 s2 : RegNum} (h : binaryW op dst s1 s2 s = .next t) :
    Ordinary s t := ordinary_done (.setGpr s dst _) h

theorem ordinary_binaryL {op : Long → Long → AluOut 64} {dst s1 s2 : RegNum} (h : binaryL op dst s1 s2 s = .next t) :
    Ordinary s t := ordinary_checked rfl (ordinary_done (.writeL s dst _)) h

theorem ordinary_divideW {op : Word → Word → AluOut 32} {dst s1 s2 : RegNum} (h : divideW op dst s1 s2 s = .next t) :
    Ordinary s t := by
  obtain ⟨_, rfl⟩ | ⟨_, rfl⟩ := divideW_next h
  · exact .raise s 6 rfl
  · exact (Ordinary.setGpr s dst _).advance

theorem ordinary_divideL {op : Long → Long → AluOut 64} {dst s1 s2 : RegNum} (h : divideL op dst s1 s2 s = .next t) :
    Ordinary s t := by
  obtain ⟨_, rfl⟩ | ⟨_, _, rfl⟩ | ⟨_, _, rfl⟩ := divideL_next h
  · exact .raise s 4 rfl
  · exact .raise s 7 rfl
  · exact (Ordinary.writeL s dst _).advance

theorem ordinary_fpuF {op : FpuOp} {dst s1 s2 : RegNum} (h : fpuF op dst s1 s2 s = .next t) : Ordinary s t := by
  obtain ⟨_, rfl⟩ | ⟨_, rfl⟩ := fpuF_next h
  · exact .raise s 8 rfl
  · exact (((Ordinary.pendCauses s _).trans (.setFpr _ dst _)).trans (.draw _)).advance

theorem ordinary_fpuD {op : FpuOp} {dst s1 s2 : RegNum} (h : fpuD op dst s1 s2 s = .next t) : Ordinary s t := by
  obtain ⟨_, rfl⟩ | ⟨_, _, rfl⟩ | ⟨_, _, rfl⟩ := fpuD_next h
  · exact .raise s 8 rfl
  · exact .raise s 5 rfl
  · exact ((Ordinary.pendCauses s _).trans (.writeD _ dst _)).advance

theorem ordinary_needFpu {k : Result} (hk : k = .next t → Ordinary s t) (h : needFpu s k = .next t) : Ordinary s t := by
  obtain ⟨_, rfl⟩ | ⟨_, h⟩ := needFpu_next h
  · exact .raise s 8 rfl
  · exact hk h

theorem ordinary_needCordic {k : Result} (hk : k = .next t → Ordinary s t) (h : needCordic s k = .next t) :
    Ordinary s t := by
  obtain ⟨_, rfl⟩ | ⟨_, h⟩ := needCordic_next h
  · exact .raise s 2 rfl
  · exact hk h

theorem ordinary_needCordicFpu {k : Result} (hk : k = .next t → Ordinary s t) (h : needCordicFpu s k = .next t) :
    Ordinary s t := by
  obtain ⟨_, rfl⟩ | ⟨_, _, rfl⟩ | ⟨_, _, h⟩ := needCordicFpu_next h
  · exact .raise s 2 rfl
  · exact .raise s 9 rfl
  · exact hk h

theorem ordinary_unaryL {op : Long → AluOut 64} {dst src : RegNum} (h : unaryL op dst src s = .next t) :
    Ordinary s t := ordinary_checked rfl (ordinary_done (.writeL s dst _)) h

theorem ordinary_cordic1W {fn : Config.Cordic1Fn} {dst src : RegNum} (h : cordic1W fn dst src s = .next t) :
    Ordinary s t := ordinary_needCordic (ordinary_done (.setGpr s dst _)) h

theorem ordinary_cordic1L {fn : Config.Cordic1Fn} {dst src : RegNum} (h : cordic1L fn dst src s = .next t) :
    Ordinary s t := ordinary_needCordic ordinary_unaryL h

theorem ordinary_cordic1F {fn : Config.Cordic1Fn} {dst src : RegNum} (h : cordic1F fn dst src s = .next t) :
    Ordinary s t := ordinary_needCordicFpu (ordinary_done (.setFpr s dst _)) h

theorem ordinary_cordic1D {fn : Config.Cordic1Fn} {dst src : RegNum} (h : cordic1D fn dst src s = .next t) :
    Ordinary s t :=
  ordinary_needCordicFpu (ordinary_checked rfl (ordinary_done (.writeD s dst _))) h

theorem ordinary_cordic2W {fn : Config.Cordic2Fn} {dst s1 s2 : RegNum} (h : cordic2W fn dst s1 s2 s = .next t) :
    Ordinary s t := ordinary_needCordic ordinary_binaryW h

theorem ordinary_cordic2L {fn : Config.Cordic2Fn} {dst s1 s2 : RegNum} (h : cordic2L fn dst s1 s2 s = .next t) :
    Ordinary s t := ordinary_needCordic ordinary_binaryL h

theorem ordinary_cordic2F {fn : Config.Cordic2Fn} {dst s1 s2 : RegNum} (h : cordic2F fn dst s1 s2 s = .next t) :
    Ordinary s t := ordinary_needCordicFpu (ordinary_done (.setFpr s dst _)) h

theorem ordinary_cordic2D {fn : Config.Cordic2Fn} {dst s1 s2 : RegNum} (h : cordic2D fn dst s1 s2 s = .next t) :
    Ordinary s t :=
  ordinary_needCordicFpu (ordinary_checked rfl (ordinary_done (.writeD s dst _))) h

theorem ordinary_branch {taken : Bool} {dis : BitVec 17} (h : branch taken dis s = .next t) : Ordinary s t := by
  obtain rfl := branch_next h
  exact .jump s _

/-! ### Every instruction -/

/-- What an instruction does when it answers a next state: the four stores, rfe and movw2s in supervisor mode, and
everything else, which leaves the system alone. -/
inductive Effect (s : State) : Instr → State → Prop
  | ordinary {i : Instr} {t : State} : Ordinary s t → Effect s i t
  | storeB (r b : RegNum) (dis : BitVec 16) :
    Effect s (.storeB r b dis) (s.memWrite1 (s.ea b dis) ((s.reg r).extractLsb' 0 8)).advance
  | storeH (r b : RegNum) (dis : BitVec 16) :
    Effect s (.storeH r b dis) (s.memWrite2 (s.ea b dis) ((s.reg r).extractLsb' 0 16)).advance
  | storeW (r b : RegNum) (dis : BitVec 16) : Effect s (.storeW r b dis) (s.memWrite4 (s.ea b dis) (s.reg r)).advance
  | storeF (r b : RegNum) (dis : BitVec 16) : Effect s (.storeF r b dis) (s.memWrite4 (s.ea b dis) (s.freg r)).advance
  | leave : s.userMode = false → Effect s .rfe s.leave
  | writeSpr {k r : RegNum} {u : State} :
    s.userMode = false → s.writeSpr k (s.reg r) = some u → Effect s (.movw2s k r) u.advance

theorem effect_store {n : Nat} {a : Word} {i : Instr} (hu : Effect s i u.advance)
    (h : withAccess s n a (done u) = .next t) : Effect s i t := by
  obtain ⟨_, rfl⟩ | ⟨_, _, h⟩ := withAccess_next h
  · exact .ordinary (.raise s 3 rfl)
  · exact done_next h ▸ hu

theorem effect_rfe (h : execRfe s = .next t) : Effect s .rfe t := by
  unfold execRfe at h
  split at h <;> cases h
  · exact .ordinary (.raise s 2 rfl)
  · rename_i hm
    exact .leave (by simpa using hm)

theorem effect_movw2s {k r : RegNum} (h : execMovw2s k r s = .next t) : Effect s (.movw2s k r) t := by
  unfold execMovw2s at h
  split at h
  · cases h; exact .ordinary (.raise s 2 rfl)
  · rename_i hm
    split at h
    · cases h; exact .ordinary (.raise s 2 rfl)
    · rename_i u hu
      exact done_next h ▸ .writeSpr (by simpa using hm) hu

theorem ordinary_movs2w {d k : RegNum} (h : execMovs2w d k s = .next t) : Ordinary s t := by
  refine ordinary_checked rfl (fun h => ?_) h
  split at h
  · cases h; exact .raise s 2 rfl
  · exact ordinary_done (.setGpr s d _) h

theorem ordinary_multL {d a b : RegNum} (h : execMultL d a b s = .next t) : Ordinary s t := by
  unfold execMultL at h
  split at h
  · exact ordinary_binaryL h
  · exact ordinary_checked rfl (ordinary_done (.writeL s d _)) h

/-- The inversion lemma of `exec`. -/
theorem exec_effect {i : Instr} (h : exec i s = .next t) : Effect s i t := by
  cases i with
  | storeB r b dis => exact effect_store (.storeB r b dis) h
  | storeH r b dis => exact effect_store (.storeH r b dis) h
  | storeW r b dis => exact effect_store (.storeW r b dis) h
  | storeF r b dis => exact effect_store (.storeF r b dis) h
  | rfe => exact effect_rfe h
  | movw2s => exact effect_movw2s h
  | movs2w => exact .ordinary (ordinary_movs2w h)
  | j | jr => cases h; exact .ordinary (.jump s _)
  | jal d | jral d => cases h; exact .ordinary ((Ordinary.setGpr s d _).trans (.jump _ _))
  | trap => exact .ordinary (ordinary_done (.pend s rfl) h)
  | bc | bv | bz | bn | bnc | bnv | bnz | bnn | bfpan | bfpinf | bfpz | bfpn | bfpnan | bfpninf | bfpnz | bfpnn =>
    exact .ordinary (ordinary_branch h)
  | movW d | movf2w d | movn2fgG d | movfg2nG d | movfg2nF d | loadi d | loadui d | lhi d | addiW d | adduiW d
  | subiW d | subuiW d | invW d => exact .ordinary (ordinary_done (.setGpr s d _) h)
  | movF d | movw2f d | movn2fgF d => exact .ordinary (ordinary_done (.setFpr s d _) h)
  | movL d => exact .ordinary (ordinary_checked rfl (ordinary_done ((Ordinary.setGpr s d _).trans (.setGpr _ _ _))) h)
  | movD d => exact .ordinary (ordinary_checked rfl (ordinary_done ((Ordinary.setFpr s d _).trans (.setFpr _ _ _))) h)
  | movd2l d =>
    exact .ordinary (ordinary_checked rfl
      (ordinary_checked rfl (ordinary_done ((Ordinary.setGpr s d _).trans (.setGpr _ _ _)))) h)
  | movl2d d =>
    exact .ordinary (ordinary_checked rfl
      (ordinary_checked rfl (ordinary_done ((Ordinary.setFpr s d _).trans (.setFpr _ _ _)))) h)
  | loadB d | loaduB d | loadH d | loaduH d | loadW d => exact .ordinary (ordinary_withAccess (.setGpr s d _) h)
  | loadF d => exact .ordinary (ordinary_withAccess (.setFpr s d _) h)
  | addW | subW | multW | andW | orW | xorW | rlW | rrW | slW | sraW | srlW => exact .ordinary (ordinary_binaryW h)
  | addL | subL | andL | orL | xorL | rlL | rrL | slL | sraL | srlL => exact .ordinary (ordinary_binaryL h)
  | multL => exact .ordinary (ordinary_multL h)
  | divW | remW => exact .ordinary (ordinary_divideW h)
  | divL | remL => exact .ordinary (ordinary_divideL h)
  | addF | subF | multF | divF => exact .ordinary (ordinary_fpuF h)
  | addD | subD | multD | divD => exact .ordinary (ordinary_fpuD h)
  | invL => exact .ordinary (ordinary_unaryL h)
  | cosW | coshW | sinW | sinhW | sqrt1msqW | sqrt1psqW | atanW | atanhW | lnW | sqrtW =>
    exact .ordinary (ordinary_cordic1W h)
  | cosL | coshL | sinL | sinhL | sqrt1msqL | sqrt1psqL | atanL | atanhL | lnL | sqrtL =>
    exact .ordinary (ordinary_cordic1L h)
  | cosF | coshF | sinF | sinhF | sqrt1msqF | sqrt1psqF | atanF | atanhF | lnF | sqrtF =>
    exact .ordinary (ordinary_cordic1F h)
  | cosD | coshD | sinD | sinhD | sqrt1msqD | sqrt1psqD | atanD | atanhD | lnD | sqrtD =>
    exact .ordinary (ordinary_cordic1D h)
  | pol2recxW | pol2recyW | hyp2recxW | hyp2recyW | normW | atan2W => exact .ordinary (ordinary_cordic2W h)
  | pol2recxL | pol2recyL | hyp2recxL | hyp2recyL | normL | atan2L => exact .ordinary (ordinary_cordic2L h)
  | pol2recxF | pol2recyF | hyp2recxF | hyp2recyF | normF | atan2F => exact .ordinary (ordinary_cordic2F h)
  | pol2recxD | pol2recyD | hyp2recxD | hyp2recyD | normD | atan2D => exact .ordinary (ordinary_cordic2D h)
  | cnvf2w d => exact .ordinary (ordinary_needFpu (ordinary_done (.setGpr s d _)) h)
  | cnvw2f d => exact .ordinary (ordinary_needFpu (ordinary_done (.setFpr s d _)) h)
  | cnvd2w d =>
    exact .ordinary (ordinary_needFpu (ordinary_checked rfl (ordinary_done (.setGpr s d _))) h)
  | cnvd2f d | cnvl2f d =>
    exact .ordinary (ordinary_needFpu (ordinary_checked rfl (ordinary_done (.setFpr s d _))) h)
  | cnvf2d d | cnvw2d d =>
    exact .ordinary (ordinary_needFpu (ordinary_checked rfl (ordinary_done (.writeD s d _))) h)
  | cnvf2l d =>
    exact .ordinary (ordinary_needFpu (ordinary_checked rfl (ordinary_done (.writeL s d _))) h)
  | cnvd2l d =>
    exact .ordinary (ordinary_needFpu
      (ordinary_checked rfl (ordinary_checked rfl (ordinary_done (.writeL s d _)))) h)
  | cnvl2d d =>
    exact .ordinary (ordinary_needFpu
      (ordinary_checked rfl (ordinary_checked rfl (ordinary_done (.writeD s d _)))) h)

end Sys2Proof.Machine

/-! SUPPORT. What movs2w reads and movw2s writes (spec/10_state.md R60, R61). -/

namespace Sys2Proof.Machine

variable {s t : State}

/-! ### Frames -/

/-- Writing one GPR and going on changes that GPR and PC only. -/
theorem wroteRegs_setGpr (s : State) (d : RegNum) (g : Gpr) : WroteRegs s (s.setGpr d g).advance [d] [] where
  frame :=
    { gprs := fun r hr => by
        rw [State.gpr_advance, State.gpr_setGpr, if_neg (by simpa using hr)]
      fprs := fun _ _ => rfl
      data := fun _ _ => rfl
      ir := rfl
      system := { SameSystem.refl s with } }
  cr := rfl
  pc := rfl

/-- Raising a cause changes its bit and PC only (spec/60_exceptions.md R503). -/
theorem raised_raise (s : State) {k : Nat} (hk : k < 32) : Raised s (s.raise k) k where
  frame := ⟨fun _ _ => rfl, fun _ _ => rfl, fun _ _ => rfl, rfl, { SameSystem.refl s with }⟩
  cause := by
    change (s.pend k).cr.getLsbD k = true
    rw [State.cr_pend_bit s hk, decide_eq_true rfl, Bool.true_or]
  others j hj := by
    change (s.pend k).cr.getLsbD j = s.cr.getLsbD j
    by_cases h : j < 32
    · rw [State.cr_pend_bit s h, decide_eq_false hj, Bool.false_or]
    · rw [BitVec.getLsbD_of_ge _ _ (by omega), BitVec.getLsbD_of_ge _ _ (by omega)]
  pc := rfl

/-! ### The two instructions in supervisor mode -/

theorem exec_movs2w_some {d k : RegNum} {v : Word} (hm : s.userMode = false) (hv : s.readSpr k = some v) :
    exec (.movs2w d k) s = .next (s.setGpr d ⟨v, false, false, v == 0#32⟩).advance := by
  change execMovs2w d k s = _
  simp [execMovs2w, hm, hv, done]

theorem exec_movs2w_none {d k : RegNum} (hm : s.userMode = false) (hv : s.readSpr k = none) :
    exec (.movs2w d k) s = .next (s.raise 2) := by
  change execMovs2w d k s = _
  simp [execMovs2w, hm, hv]

theorem exec_movw2s_some {k r : RegNum} (hm : s.userMode = false) (hw : s.writeSpr k (s.reg r) = some t) :
    exec (.movw2s k r) s = .next t.advance := by
  change execMovw2s k r s = _
  simp [execMovw2s, hm, hw, done]

theorem exec_movw2s_none {k r : RegNum} (hm : s.userMode = false) (hw : s.writeSpr k (s.reg r) = none) :
    exec (.movw2s k r) s = .next (s.raise 2) := by
  change execMovw2s k r s = _
  simp [execMovw2s, hm, hw]

/-! ### Reading -/

/-- The numbers from 9 on are not assigned (D8). -/
theorem State.readSpr_unassigned {k : RegNum} (hk : 9 ≤ k.toNat) : s.readSpr k = none := by
  unfold State.readSpr
  split <;> first | rfl | omega

theorem State.readCfg_toNat (s : State) :
    s.readCfg.toNat = (s.cfg.getLsbD 0).toNat + 2 * s.nesting.toNat + 4 * (s.cfg.getLsbD 2).toNat
      + 16 * (s.cfg.getLsbD 4).toNat + 32 * (s.cfg.getLsbD 5).toNat := by
  have bits : ∀ (c : BitVec 6) (b : Bool),
      ((c.extractLsb' 4 2 ++ 0#1 ++ c.extractLsb' 2 1 ++ BitVec.ofBool b ++ c.extractLsb' 0 1).setWidth 32).toNat
        = (c.getLsbD 0).toNat + 2 * b.toNat + 4 * (c.getLsbD 2).toNat + 16 * (c.getLsbD 4).toNat
          + 32 * (c.getLsbD 5).toNat := by
    decide
  exact bits s.cfg s.nesting

/-! ### Writing -/

theorem State.writeSpr_unassigned {k : RegNum} {v : Word} (hk : 9 ≤ k.toNat) : s.writeSpr k v = none := by
  unfold State.writeSpr
  split <;> first | rfl | omega

/-- CFG after a write, before the strobe. -/
theorem State.writeCfg_cfg (s : State) (v : Word) :
    (s.writeCfg v).cfg = v.extractLsb' 4 2 ++ 0#1 ++ v.extractLsb' 2 1
      ++ (if s.params.hasLrs then v.extractLsb' 1 1 else 0#1) ++ v.extractLsb' 0 1 := by
  unfold State.writeCfg
  simp only
  split
  · rw [State.startStrobe_eq]
  · rfl

/-- CFG after a write, bit by bit (R61, R42). -/
theorem State.writeCfg_cfg_bits (s : State) (v : Word) :
    (s.writeCfg v).cfg.getLsbD 0 = v.getLsbD 0 ∧ (s.writeCfg v).cfg.getLsbD 1 = (s.params.hasLrs && v.getLsbD 1)
      ∧ (s.writeCfg v).cfg.getLsbD 2 = v.getLsbD 2 ∧ (s.writeCfg v).cfg.getLsbD 3 = false
      ∧ (s.writeCfg v).cfg.getLsbD 4 = v.getLsbD 4 ∧ (s.writeCfg v).cfg.getLsbD 5 = v.getLsbD 5 := by
  simp only [s.writeCfg_cfg v, BitVec.getLsbD_append, BitVec.getLsbD_extractLsb']
  cases s.params.hasLrs <;> simp

/-- The strobe reloads a stopped timer when bits 3 and 2 of the value are set (spec/60_exceptions.md R542). -/
theorem State.writeCfg_tmr (s : State) (v : Word) :
    (s.writeCfg v).tmr = if v.getLsbD 3 = true ∧ v.getLsbD 2 = true ∧ s.tmr = 0#32 then s.reload else s.tmr := by
  obtain ⟨_, _, h2, _⟩ := s.writeCfg_cfg_bits v
  rw [s.writeCfg_cfg v] at h2
  unfold State.writeCfg State.startStrobe State.autoStop
  simp only [h2]
  cases v.getLsbD 3 <;> cases v.getLsbD 2 <;> simp [State.reload]
  split <;> rfl

/-- STP # 0b1111111111 (R46). -/
theorem State.reload_toNat (s : State) : s.reload.toNat = 1024 * s.stp.toNat + 1023 := by
  have h : s.reload.toNat = s.stp.toNat <<< 10 ||| 1023 := BitVec.toNat_append ..
  rw [h, ← Nat.shiftLeft_add_eq_or_of_lt (by decide), Nat.shiftLeft_eq]
  omega

theorem extractLsb'_zero_ofNat (v : Word) : v.extractLsb' 0 22 = BitVec.ofNat 22 v.toNat := by
  apply BitVec.eq_of_toNat_eq
  simp

/-- The global mask as one bit. -/
theorem maskBit_eq (m : BitVec 33) : m.extractLsb' 32 1 = BitVec.ofBool (m.getLsbD 32) := by
  ext i hi
  obtain rfl : i = 0 := by omega
  simp

/-- No special register that movw2s writes is CR. -/
theorem State.cr_of_writeSpr {k : RegNum} {v : Word} (h : s.writeSpr k v = some t) : t.cr = s.cr := by
  obtain ⟨_, rfl⟩ | ⟨_, rfl⟩ | ⟨_, rfl⟩ | ⟨_, rfl⟩ | ⟨_, rfl⟩ | ⟨_, rfl⟩ := State.writeSpr_some h
  · rw [State.writeCfg_eq]
  all_goals rfl

/-! ### The two statements -/

/-- The table of R60. -/
theorem State.readSpr_table {k : RegNum} {v : Word}
    (h : k = 0#5 ∧ v.toNat = (s.cfg.getLsbD 0).toNat + 2 * (s.params.hasLrs && s.cfg.getLsbD 1).toNat
          + 4 * (s.cfg.getLsbD 2).toNat + 16 * (s.cfg.getLsbD 4).toNat + 32 * (s.cfg.getLsbD 5).toNat
        ∨ k = 1#5 ∧ v.toNat = s.stp.toNat ∨ k = 2#5 ∧ v.toNat = s.mr.toNat % 2 ^ 32 ∨ k = 3#5 ∧ v = s.ir
        ∨ k = 4#5 ∧ v = s.tmr ∨ k = 5#5 ∧ v = s.pwd ∨ k = 6#5 ∧ v = s.pwa ∨ k = 7#5 ∧ v = s.prd
        ∨ k = 8#5 ∧ v = s.pra) : s.readSpr k = some v := by
  obtain ⟨rfl, h⟩ | ⟨rfl, h⟩ | ⟨rfl, h⟩ | ⟨rfl, rfl⟩ | ⟨rfl, rfl⟩ | ⟨rfl, rfl⟩ | ⟨rfl, rfl⟩ | ⟨rfl, rfl⟩
    | ⟨rfl, rfl⟩ := h
  case inl => exact congrArg some (BitVec.eq_of_toNat_eq (s.readCfg_toNat.trans h.symm))
  case inr.inl =>
    have hs : (s.stp.setWidth 32).toNat = s.stp.toNat := by
      rw [BitVec.toNat_setWidth, Nat.mod_eq_of_lt (by omega)]
    exact congrArg some (BitVec.eq_of_toNat_eq (hs.trans h.symm))
  case inr.inr.inl =>
    exact congrArg some (BitVec.eq_of_toNat_eq (by simpa using h.symm))
  all_goals rfl

/-- Settles O5, from the table of R60 and the frame of a GPR write. -/
theorem readSpecialRegister : Obligations.ReadSpecialRegister := by
  intro s d k hm
  refine ⟨fun v hv => ⟨_, exec_movs2w_some hm (State.readSpr_table hv), wroteRegs_setGpr s d _, ?_⟩, fun hk => ?_⟩
  · rw [State.gpr_advance, State.gpr_setGpr, if_pos rfl]
    rfl
  · exact ⟨_, exec_movs2w_none hm (State.readSpr_unassigned hk), raised_raise s (by decide)⟩

/-- movw2s to CFG changes CFG, TMR and PC only. -/
theorem exec_movw2s_cfg {r : RegNum} (hm : s.userMode = false) :
    exec (.movw2s 0#5 r) s = .next (s.writeCfg (s.reg r)).advance
      ∧ (s.writeCfg (s.reg r)).advance
          = { s with cfg := (s.writeCfg (s.reg r)).cfg, tmr := (s.writeCfg (s.reg r)).tmr, pc := s.pc + 1#30 } :=
  ⟨exec_movw2s_some hm rfl, by rw [State.writeCfg_eq]; rfl⟩

/-- Settles O6, register by register. -/
theorem writeSpecialRegister : Obligations.WriteSpecialRegister := by
  intro s k a hm
  refine ⟨?cfg, ?stp, ?mr, ?pwd, ?pwa, ?readOnly, ?unassigned⟩
  case cfg =>
    obtain ⟨hexec, hframe⟩ := exec_movw2s_cfg (r := a) hm
    obtain ⟨h0, h1, h2, h3, h4, h5⟩ := s.writeCfg_cfg_bits (s.reg a)
    refine ⟨_, hexec, hframe, h0, h1, h2, h3, h4, h5, ?_⟩
    change (s.writeCfg (s.reg a)).tmr.toNat = _
    rw [State.writeCfg_tmr, apply_ite BitVec.toNat, State.reload_toNat]
    simp only [← BitVec.toNat_inj, BitVec.toNat_ofNat, Nat.zero_mod]
  case stp => rw [← extractLsb'_zero_ofNat]; exact exec_movw2s_some (k := 1#5) (r := a) hm rfl
  case mr => rw [← maskBit_eq]; exact exec_movw2s_some (k := 2#5) (r := a) hm rfl
  case pwd => exact exec_movw2s_some (k := 5#5) (r := a) hm rfl
  case pwa => exact exec_movw2s_some (k := 6#5) (r := a) hm rfl
  case readOnly =>
    rintro (rfl | rfl | rfl | rfl)
    all_goals exact exec_movw2s_some hm rfl
  case unassigned =>
    exact fun hk => ⟨_, exec_movw2s_none hm (State.writeSpr_unassigned hk), raised_raise s (by decide)⟩

end Sys2Proof.Machine

/-! SUPPORT. The invariant is kept by every operation, and with that by every step. -/

namespace Sys2Proof.Machine

variable {s t : State}

/-! ### Reserved causes -/

/-- The causes that nothing sets: E0 and E14 to E29 (spec/60_exceptions.md R511, R519). -/
def isReservedCause (k : Nat) : Bool := k == 0 || 14 ≤ k && k ≤ 29

/-- The mask of the invariant, bit by bit. -/
theorem reservedMask_bit : ∀ k < 32, (0x3FFFC001#32).getLsbD k = isReservedCause k := by decide

theorem reservedCauses_zero_iff {c : Word} :
    c &&& 0x3FFFC001#32 = 0#32 ↔ ∀ k, isReservedCause k = true → c.getLsbD k = false := by
  constructor
  · intro h k hk
    have hlt : k < 32 := by simp [isReservedCause] at hk; omega
    simpa [reservedMask_bit k hlt, hk] using congrArg (·.getLsbD k) h
  · intro h
    ext k hk
    rw [← BitVec.getLsbD_eq_getElem, BitVec.getLsbD_and, reservedMask_bit k hk]
    cases hr : isReservedCause k with
    | true => simp [h k hr]
    | false => simp

theorem not_reserved_of_instrCause {k : Nat} (h : isInstrCause k = true) : isReservedCause k = false := by
  simp [isInstrCause, isReservedCause] at *; omega

namespace State.Inv

theorem reserved_zero (h : s.Inv) {k : Nat} (hk : isReservedCause k = true) : s.cr.getLsbD k = false :=
  reservedCauses_zero_iff.1 h.causes k hk

/-- The causes clause for a CR whose reserved bits were set before. -/
theorem causes_of_le (h : s.Inv) {c : Word}
    (hc : ∀ k, isReservedCause k = true → c.getLsbD k = true → s.cr.getLsbD k = true) : c &&& 0x3FFFC001#32 = 0#32 :=
  reservedCauses_zero_iff.2 fun k hk => Bool.eq_false_iff.2 fun ht => by
    simpa [h.reserved_zero hk] using hc k hk ht

/-! ### The operations -/

/-- Causes that are not reserved may be pended. -/
theorem pend (h : s.Inv) (k : Nat) (hk : isReservedCause k = false) : (s.pend k).Inv :=
  { h with
    causes := h.causes_of_le fun j hj ht => by
      rw [State.cr_pend_bit s (BitVec.lt_of_getLsbD ht), Bool.or_eq_true, decide_eq_true_eq] at ht
      exact ht.resolve_left fun e : j = k => by simp [e, hk] at hj }

theorem advance (h : s.Inv) : s.advance.Inv := { h with }

/-- What leaves the system alone keeps the invariant. -/
theorem of_ordinary (h : s.Inv) (o : Ordinary s t) : t.Inv where
  strobe := o.system.cfg ▸ h.strobe
  noNesting := by rw [o.system.params, o.system.cfg]; exact h.noNesting
  noLevel := by rw [o.system.params, o.system.esp]; exact h.noLevel
  baseLink := by rw [State.link_congr o.system.links]; exact h.baseLink
  otherLinks j hj := by rw [State.link_congr o.system.links]; exact h.otherLinks j hj
  causes := h.causes_of_le fun k hk ht =>
    (o.causesAdded k ht).resolve_right fun hi => by simp [not_reserved_of_instrCause hi] at hk
  dataForm := o.data ▸ h.dataForm
  codeForm := o.system.im ▸ h.codeForm

theorem setByte (h : s.Inv) (a : Word) (b : Byte) : (s.setByte a b).Inv :=
  { h with dataForm := State.dm_wf_setByte s a b h.dataForm }

theorem memWrite1 (h : s.Inv) (a : Word) (v : Byte) : (s.memWrite1 a v).Inv := h.setByte a v

theorem memWrite2 (h : s.Inv) (a : Word) (v : BitVec 16) : (s.memWrite2 a v).Inv := (h.setByte ..).setByte ..

theorem memWrite4 (h : s.Inv) (a : Word) (v : Word) : (s.memWrite4 a v).Inv :=
  (((h.setByte ..).setByte ..).setByte ..).setByte ..

/-- A link register may be written if its marker stays (R55). -/
theorem setLink (h : s.Inv) (j : BitVec 5) {l : Link} (hl : l.getLsbD 35 = (s.link j).getLsbD 35) :
    (s.setLink j l).Inv := by
  have marker (i : BitVec 5) : ((s.setLink j l).link i).getLsbD 35 = (s.link i).getLsbD 35 := by
    rw [State.link_setLink]
    split
    · rename_i hi; rw [hl, hi]
    · rfl
  exact { h with
    baseLink := (marker 0#5).trans h.baseLink
    otherLinks := fun i hi => (marker i).trans (h.otherLinks i hi) }

theorem linkWithReturn_marker (l : Link) (pc : WordIdx) : (linkWithReturn l pc).getLsbD 35 = l.getLsbD 35 :=
  BitVec.getLsbD_append.trans (by simp)

theorem linkWithCause_marker (l : Link) (k : Nat) : (linkWithCause l k).getLsbD 35 = l.getLsbD 35 :=
  BitVec.getLsbD_append.trans (BitVec.getLsbD_append.trans (by simp))

/-- With nesting there is a link register stack (R42). -/
theorem hasLrs_of_nesting (h : s.nesting = true) : s.params.hasLrs = true := by
  simp only [State.nesting, Bool.and_eq_true] at h
  exact h.1

/-- ESP may take any value where it exists (R57). -/
theorem setEsp (h : s.Inv) (hl : s.params.hasLrs = true) (e : BitVec 5) : ({ s with esp := e } : State).Inv :=
  { h with noLevel := fun hn => absurd hl (by simp [show s.params.hasLrs = false from hn]) }

theorem saveReturn (h : s.Inv) (k : Nat) : (s.saveReturn k).Inv := by
  unfold State.saveReturn
  split
  · rename_i hn
    exact ((h.setLink _ (linkWithReturn_marker _ _)).setLink _ (linkWithCause_marker _ _)).setEsp
      (hasLrs_of_nesting hn) _
  · exact { h.setLink 0#5 (linkWithReturn_marker _ _) with }

/-- Taking an exception keeps the invariant. -/
theorem enter (h : s.Inv) (k : Nat) : (s.enter k).Inv :=
  { h.saveReturn k with
    strobe := by simpa [State.enter] using (h.saveReturn k).strobe
    noNesting := fun hl => by simpa [State.enter] using (h.saveReturn k).noNesting hl
    causes := (h.saveReturn k).causes_of_le fun j _ hj => by
      simp only [State.enter, BitVec.getLsbD_and, Bool.and_eq_true] at hj
      exact hj.1 }

/-- User mode may be set in CFG. -/
theorem setUserMode (h : s.Inv) : ({ s with cfg := s.cfg ||| 1#6 } : State).Inv :=
  { h with
    strobe := by simpa using h.strobe
    noNesting := fun hl => by simpa using h.noNesting hl }

theorem leave (h : s.Inv) : s.leave.Inv := by
  unfold State.leave
  split
  · rename_i hn
    exact { (h.setEsp (hasLrs_of_nesting hn) (s.esp - 1#5)).setUserMode with }
  · exact { h.setUserMode with }

theorem writeCfg (h : s.Inv) (v : Word) : (s.writeCfg v).Inv := by
  obtain ⟨_, h1, _, h3, _⟩ := s.writeCfg_cfg_bits v
  rw [State.writeCfg_eq]
  exact { h with
    strobe := h3
    noNesting := fun hl : s.params.hasLrs = false => by
      change (s.writeCfg v).cfg.getLsbD 1 = false
      rw [h1, hl, Bool.false_and] }

theorem writeSpr {k : RegNum} {v : Word} (h : s.Inv) (hw : s.writeSpr k v = some t) : t.Inv := by
  obtain ⟨_, rfl⟩ | ⟨_, rfl⟩ | ⟨_, rfl⟩ | ⟨_, rfl⟩ | ⟨_, rfl⟩ | ⟨_, rfl⟩ := State.writeSpr_some hw
  · exact h.writeCfg v
  · exact { h with }
  · exact { h with }
  · exact { h with }
  · exact { h with }
  · exact h

/-! ### The environment -/

theorem reset : State.reset.Inv where
  strobe := rfl
  noNesting _ := rfl
  noLevel _ := rfl
  baseLink := by decide
  otherLinks := by decide
  causes := by decide
  dataForm := State.reset_dm_wf
  codeForm := State.reset_im_wf

/-- Reset keeps both memories and gives every register of the invariant its reset value (R70). -/
theorem resetEvent (h : s.Inv) : s.resetEvent.Inv :=
  { reset with
    noNesting := fun _ => (rfl : (0#6).getLsbD 1 = false)
    noLevel := fun _ => rfl
    dataForm := h.dataForm
    codeForm := h.codeForm }

theorem timerTick (h : s.Inv) : s.timerTick.Inv := by
  unfold State.timerTick
  split
  · split
    · exact h
    · exact { h with }
  · have hd : ({ s with tmr := s.tmr - 1#32 } : State).Inv := { h with }
    simp only
    split
    · exact hd.pend 1 rfl
    · exact hd

theorem irqRaise (h : s.Inv) : s.irqRaise.Inv := { h.pend 30 rfl with }

theorem post (h : s.Inv) (pra prd : Word) : (s.post pra prd).Inv := { h with }

theorem event (h : s.Inv) (e : EnvEvent) : (s.event e).Inv := by
  cases e with
  | reset => exact h.resetEvent
  | tick => exact h.timerTick
  | irqRaise p =>
    cases p with
    | none => exact h.irqRaise
    | some p => exact h.irqRaise.post p.1 p.2
  | peripheralPost pra prd => exact h.post pra prd

theorem environment (h : s.Inv) : s.environment.Inv :=
  State.environment_induction s { h with } (fun _ hu => hu.resetEvent) (fun _ e hu _ => hu.event e)

theorem detect (h : s.Inv) : s.detect.Inv := by
  obtain ⟨k, _, hd⟩ | ⟨_, hd⟩ := s.detect_cases
  · rw [hd]; exact h.enter k
  · rwa [hd]

theorem fetched (h : s.Inv) (w : Word) : (s.fetched w).Inv := { h with }

/-! ### Instructions -/

theorem exec {i : Instr} (h : s.Inv) (he : exec i s = .next t) : t.Inv := by
  cases exec_effect he with
  | ordinary o => exact h.of_ordinary o
  | storeB => exact (h.memWrite1 _ _).advance
  | storeH => exact (h.memWrite2 _ _).advance
  | storeW | storeF => exact (h.memWrite4 _ _).advance
  | leave => exact h.leave
  | writeSpr _ hw => exact (h.writeSpr hw).advance

end State.Inv

/-- A step that answers a next state: the environment and detection, the fetch, then an instruction or E2 (R501). -/
theorem step_next (h : step s = .next t) :
    ∃ w, (∃ i, exec i (s.begin.fetched w) = .next t) ∨ t = (s.begin.fetched w).raise 2 := by
  obtain ⟨w, _, hw⟩ := cycle_next h
  exact ⟨w, (runWord_next hw).imp_left fun ⟨i, _, hi⟩ => ⟨i, hi⟩⟩

theorem State.Inv.step (h : s.Inv) (hs : step s = .next t) : t.Inv := by
  obtain ⟨w, ⟨i, hi⟩ | rfl⟩ := step_next hs
  · exact (h.environment.detect.fetched w).exec hi
  · exact (h.environment.detect.fetched w).of_ordinary (.raise _ 2 rfl)

/-- Settles O53. -/
theorem invAtReset : Obligations.InvAtReset := State.Inv.reset

/-- Settles O54, by the inversion lemma of `exec` and one lemma per operation around it. -/
theorem stepKeepsInv : Obligations.StepKeepsInv := fun _ _ h hs => h.step hs

end Sys2Proof.Machine

/-! SUPPORT. Which operations set and clear cause bits, and what Reset leaves (spec/10_state.md R54, R70). -/

namespace Sys2Proof.Machine

variable {s t : State}

/-! ### Instructions -/

/-- An instruction leaves the system alone or leaves CR alone (spec/60_exceptions.md R510). -/
theorem Effect.ordinary_or_cr_eq {i : Instr} (h : Effect s i t) : Ordinary s t ∨ t.cr = s.cr := by
  cases h with
  | ordinary o => exact .inl o
  | storeB | storeH | storeW | storeF => exact .inr (by simp)
  | leave => exact .inr (by rw [State.leave_eq])
  | writeSpr _ hw => exact .inr ((State.cr_advance _).trans (State.cr_of_writeSpr hw))

theorem exec_causesKept {i : Instr} {k : Nat} (h : exec i s = .next t) (hk : s.cr.getLsbD k = true) :
    t.cr.getLsbD k = true := by
  obtain o | hcr := (exec_effect h).ordinary_or_cr_eq
  · exact o.causesKept k hk
  · rwa [hcr]

theorem exec_causesAdded {i : Instr} {k : Nat} (h : exec i s = .next t) (hk : t.cr.getLsbD k = true) :
    s.cr.getLsbD k = true ∨ isInstrCause k = true := by
  obtain o | hcr := (exec_effect h).ordinary_or_cr_eq
  · exact o.causesAdded k hk
  · exact .inl (by rwa [← hcr])

/-! ### The environment and detection -/

theorem State.pend_causesKept (j : Nat) {k : Nat} (hk : s.cr.getLsbD k = true) : (s.pend j).cr.getLsbD k = true := by
  rw [State.cr_pend_bit s (BitVec.lt_of_getLsbD hk), hk, Bool.or_true]

theorem State.timerTick_causesKept {k : Nat} (hk : s.cr.getLsbD k = true) : s.timerTick.cr.getLsbD k = true := by
  unfold State.timerTick
  split
  · split <;> exact hk
  · simp only
    split
    · exact State.pend_causesKept 1 hk
    · exact hk

/-- Only Reset clears a cause among the events (R510). -/
theorem State.event_causesKept {e : EnvEvent} (he : e ≠ .reset) {k : Nat} (hk : s.cr.getLsbD k = true) :
    (s.event e).cr.getLsbD k = true := by
  cases e with
  | reset => exact absurd rfl he
  | tick => exact State.timerTick_causesKept hk
  | irqRaise p => cases p <;> exact State.pend_causesKept 30 hk
  | peripheralPost => exact hk

theorem foldl_event_causesKept {evs : List EnvEvent} (hn : .reset ∉ evs) {k : Nat} (hk : s.cr.getLsbD k = true) :
    (evs.foldl State.event s).cr.getLsbD k = true := by
  induction evs generalizing s with
  | nil => exact hk
  | cons e rest ih =>
    rw [List.mem_cons, not_or] at hn
    exact ih hn.2 (State.event_causesKept (Ne.symm hn.1) hk)

theorem State.environment_causesKept (hn : .reset ∉ s.inputs.headD []) {k : Nat} (hk : s.cr.getLsbD k = true) :
    s.environment.cr.getLsbD k = true := by
  rw [State.environment_eq hn]
  exact foldl_event_causesKept (mt mem_clocked_reset.1 hn) hk

/-- An entry clears its own cause only (R520). -/
theorem State.enter_causesKept {j k : Nat} (hj : k ≠ j) (hk : s.cr.getLsbD k = true) :
    (s.enter j).cr.getLsbD k = true := by
  have hne : (1#32 <<< j).getLsbD k = false := by
    rw [BitVec.getLsbD_shiftLeft, BitVec.getLsbD_one]
    by_cases h : k < j
    · simp [h]
    · simp [show k - j ≠ 0 by omega]
  rw [State.enter_eq, BitVec.getLsbD_and, BitVec.getLsbD_not, hk, hne, decide_eq_true (BitVec.lt_of_getLsbD hk)]
  rfl

/-- Detection clears no cause but the one it enters. -/
theorem State.detect_causesKept {k : Nat} (hk : s.cr.getLsbD k = true) (hp : s.pendingCause ≠ some k) :
    s.detect.cr.getLsbD k = true := by
  obtain ⟨j, hj, hd⟩ | ⟨_, hd⟩ := s.detect_cases
  · rw [hd]
    exact State.enter_causesKept (fun e => hp (e ▸ hj)) hk
  · rwa [hd]

/-! ### The step -/

theorem inputs_of_mem_headD {e : EnvEvent} (h : e ∈ s.inputs.headD []) :
    ∃ evs rest, s.inputs = evs :: rest ∧ e ∈ evs := by
  cases hs : s.inputs with
  | nil => simp [hs] at h
  | cons evs rest => exact ⟨evs, rest, rfl, by simpa [hs] using h⟩

/-- A cause that is neither entered nor reset is pending after the step. -/
theorem step_causesKept {k : Nat} (h : step s = .next t) (hk : s.cr.getLsbD k = true)
    (hn : .reset ∉ s.inputs.headD []) (hp : s.environment.pendingCause ≠ some k) : t.cr.getLsbD k = true := by
  have hb : s.begin.cr.getLsbD k = true := State.detect_causesKept (State.environment_causesKept hn hk) hp
  obtain ⟨w, ⟨i, hi⟩ | rfl⟩ := step_next h
  · exact exec_causesKept hi hb
  · exact State.pend_causesKept 2 hb

/-- Settles O59, by the inversion lemma of `exec` and, for the step, the contrapositive of `step_causesKept`. -/
theorem causesStayPending : Obligations.CausesStayPending := by
  intro s t k
  refine ⟨fun i hi => ?_, fun hs hk ht => ?_⟩
  · exact ⟨exec_causesKept hi, fun h => (exec_causesAdded hi h).imp_right isInstrCause_iff.1⟩
  · by_cases hn : .reset ∈ s.inputs.headD []
    · exact .inr (inputs_of_mem_headD hn)
    · refine .inl (by_contra fun hp => ?_)
      simp [step_causesKept hs hk hn hp] at ht

/-! ### Reset -/

theorem atReset_reset : AtReset State.reset := by
  refine ⟨?_, ?_, rfl, rfl, rfl, rfl, rfl, rfl, rfl, rfl, rfl, rfl, rfl, rfl, by decide, rfl, rfl⟩
  · exact fun r => Vector.getElem_replicate ..
  · exact fun r => Vector.getElem_replicate ..

/-- A Reset among the events discards the others (R570, R501; log 22). -/
theorem State.environment_of_reset {evs : List EnvEvent} {rest : List (List EnvEvent)} (hs : s.inputs = evs :: rest)
    (hr : .reset ∈ evs) : s.environment = ({ s with inputs := rest } : State).resetEvent := by
  unfold State.environment
  simp [hs, hr]

/-- Settles O46: the events of such a step come down to the Reset. -/
theorem resetValues : Obligations.ResetValues := by
  refine ⟨atReset_reset, ?_⟩
  rintro s t evs rest hs hr rfl
  rw [State.environment_of_reset hs hr]
  exact ⟨atReset_reset, rfl, rfl, rfl, rfl⟩

end Sys2Proof.Machine

/-! SUPPORT. The magnitudes of a format in order, and the rounding step of Machine/Ieee.lean against them
(spec/10_state.md R38). A magnitude `E * 2 ^ fracBits + k` whose significand `k` has its leading bit (or with `E = 0`)
has the value `k * 2 ^ (ulpMin + E)`, and so has the next one up to a carry into the exponent. -/

namespace Sys2Proof.Machine

/-! ### Magnitudes in order -/

/-- The value of a magnitude by exponent and significand, a carry out of the significand included. -/
theorem magValue_scaled (f : FpFmt) {E k : Nat} (hE : E = 0 ∨ 2 ^ f.fracBits ≤ k) (hk : k ≤ 2 ^ (f.fracBits + 1)) :
    magValue f (E * 2 ^ f.fracBits + k) = k * (2 : ℚ) ^ (f.ulpMin + E) := by
  have hpos : 0 < 2 ^ f.fracBits := Nat.two_pow_pos _
  rw [Nat.pow_succ] at hk
  unfold magValue
  by_cases hlow : k < 2 ^ f.fracBits
  · obtain rfl : E = 0 := hE.resolve_right (by omega)
    simp [hlow]
  · rw [if_neg (by have := Nat.le_add_left k (E * 2 ^ f.fracBits); omega)]
    by_cases htop : k = 2 ^ f.fracBits * 2
    · have hsplit : E * 2 ^ f.fracBits + k = 2 ^ f.fracBits * (E + 2) := by rw [htop]; ring
      rw [hsplit, Nat.mul_mod_right, Nat.mul_div_cancel_left _ hpos, htop]
      rw [show f.ulpMin + ((E + 2 : Nat) : Int) - 1 = f.ulpMin + E + 1 by push_cast; ring,
        zpow_add_one₀ (by norm_num)]
      push_cast
      ring
    · obtain ⟨r, rfl⟩ := Nat.exists_eq_add_of_le (Nat.not_lt.1 hlow)
      have hr : r < 2 ^ f.fracBits := by omega
      have hsplit : E * 2 ^ f.fracBits + (2 ^ f.fracBits + r) = r + 2 ^ f.fracBits * (E + 1) := by ring
      rw [hsplit, Nat.add_mul_mod_self_left, Nat.mod_eq_of_lt hr, Nat.add_mul_div_left _ _ hpos,
        Nat.div_eq_of_lt hr, Nat.zero_add]
      rw [show f.ulpMin + ((E + 1 : Nat) : Int) - 1 = f.ulpMin + E by push_cast; ring]

/-- Every magnitude is one of that form. -/
theorem exists_scaled (f : FpFmt) (mag : Nat) :
    ∃ E k, mag = E * 2 ^ f.fracBits + k ∧ (E = 0 ∨ 2 ^ f.fracBits ≤ k) ∧ k < 2 ^ (f.fracBits + 1) := by
  rw [Nat.pow_succ]
  by_cases hlow : mag < 2 ^ f.fracBits
  · exact ⟨0, mag, by omega, .inl rfl, by omega⟩
  · have hpos : 0 < 2 ^ f.fracBits := Nat.two_pow_pos _
    have hdiv : 1 ≤ mag / 2 ^ f.fracBits := (Nat.one_le_div_iff hpos).2 (by omega)
    obtain ⟨q, hq⟩ := Nat.exists_eq_add_of_le hdiv
    have hmod := Nat.mod_lt mag hpos
    refine ⟨q, 2 ^ f.fracBits + mag % 2 ^ f.fracBits, ?_, .inr (by omega), by omega⟩
    calc mag = 2 ^ f.fracBits * (1 + q) + mag % 2 ^ f.fracBits := by rw [← hq, Nat.div_add_mod]
      _ = q * 2 ^ f.fracBits + (2 ^ f.fracBits + mag % 2 ^ f.fracBits) := by ring

/-- Larger magnitudes have larger values. -/
theorem magValue_strictMono (f : FpFmt) : StrictMono (magValue f) := by
  refine strictMono_nat_of_lt_succ fun mag => ?_
  obtain ⟨E, k, rfl, hE, hk⟩ := exists_scaled f mag
  rw [magValue_scaled f hE hk.le, Nat.add_assoc, magValue_scaled f (hE.imp_right fun h => by omega) hk]
  have hp : (0 : ℚ) < 2 ^ (f.ulpMin + E) := by positivity
  push_cast
  linarith

/-! ### Rounding between two neighbours -/

section Neighbours

variable {f : FpFmt} {x : ℚ} {mag : Nat}

theorem abs_magValue_sub_of_ge (h : magValue f mag ≤ x) : |magValue f mag - x| = x - magValue f mag := by
  rw [abs_of_nonpos (by linarith), neg_sub]

theorem abs_magValue_sub_of_le (h : x ≤ magValue f mag) : |magValue f mag - x| = magValue f mag - x :=
  abs_of_nonneg (by linarith)

/-- The lower neighbour is the nearest when the upper one is not nearer, and even in a tie. -/
theorem isRounded_nearest_low (neg : Bool) (hlo : magValue f mag ≤ x)
    (hx : x - magValue f mag ≤ magValue f (mag + 1) - x)
    (htie : x - magValue f mag = magValue f (mag + 1) - x → mag % 2 = 0) : IsRounded f .rn neg x mag := by
  intro j
  rw [abs_magValue_sub_of_ge hlo]
  obtain hj | rfl | hj := lt_trichotomy j mag
  · have := magValue_strictMono f hj
    rw [abs_magValue_sub_of_ge (by linarith)]
    exact ⟨by linarith, fun h => by linarith⟩
  · rw [abs_magValue_sub_of_ge hlo]
    exact ⟨le_rfl, fun _ => .inl rfl⟩
  · have := (magValue_strictMono f).monotone (Nat.succ_le_of_lt hj)
    rw [Nat.succ_eq_add_one] at this
    rw [abs_magValue_sub_of_le (by linarith)]
    exact ⟨by linarith, fun h => .inr (htie (by linarith))⟩

/-- The upper neighbour is the nearest when the lower one is not nearer, and even in a tie. -/
theorem isRounded_nearest_high (neg : Bool) (hhi : x ≤ magValue f (mag + 1))
    (hx : magValue f (mag + 1) - x ≤ x - magValue f mag)
    (htie : magValue f (mag + 1) - x = x - magValue f mag → (mag + 1) % 2 = 0) : IsRounded f .rn neg x (mag + 1) := by
  intro j
  rw [abs_magValue_sub_of_le hhi]
  obtain hj | rfl | hj := lt_trichotomy j (mag + 1)
  · have := (magValue_strictMono f).monotone (Nat.le_of_lt_succ hj)
    rw [abs_magValue_sub_of_ge (by linarith)]
    exact ⟨by linarith, fun h => .inr (htie (by linarith))⟩
  · rw [abs_magValue_sub_of_le hhi]
    exact ⟨le_rfl, fun _ => .inl rfl⟩
  · have := magValue_strictMono f hj
    rw [abs_magValue_sub_of_le (by linarith)]
    exact ⟨by linarith, fun h => by linarith⟩

/-- A value that a magnitude has is rounded up to it. -/
theorem magValue_pred_lt (f : FpFmt) (mag : Nat) : mag = 0 ∨ magValue f (mag - 1) < magValue f mag := by
  cases mag with
  | zero => exact .inl rfl
  | succ n => exact .inr (magValue_strictMono f (Nat.lt_succ_self n))

end Neighbours

/-- Whether the larger of two neighbours is taken: `r` of `d` parts of the way from the smaller one, whose last bit is
that of `k`. -/
def roundsUp (rnd : Config.Rnd) (neg : Bool) (d r k : Nat) : Bool :=
  match rnd with
  | .rn => decide (d < 2 * r) || (2 * r == d && k % 2 == 1)
  | .rz => false
  | .rp => r != 0 && !neg
  | .rm => r != 0 && neg

/-- The larger neighbour is never taken for a value the smaller one has. -/
theorem roundsUp_zero (rnd : Config.Rnd) (neg : Bool) {d : Nat} (hd : 0 < d) (k : Nat) :
    roundsUp rnd neg d 0 k = false := by
  cases rnd with
  | rn => simp [roundsUp]; omega
  | rz => rfl
  | rp | rm => simp [roundsUp]

theorem ite_succ_eq (b : Bool) (k : Nat) : (if b then k + 1 else k) = k + b.toNat := by
  cases b <;> rfl

theorem roundInt_eq (rnd : Config.Rnd) (neg : Bool) (m : Nat) (sh : Int) :
    roundInt rnd neg m sh =
      (m * 2 ^ (-sh).toNat / 2 ^ sh.toNat
          + (roundsUp rnd neg (2 ^ sh.toNat) (m * 2 ^ (-sh).toNat % 2 ^ sh.toNat)
              (m * 2 ^ (-sh).toNat / 2 ^ sh.toNat)).toNat,
        m * 2 ^ (-sh).toNat % 2 ^ sh.toNat != 0) :=
  Prod.ext (ite_succ_eq (roundsUp rnd neg _ _ _) _) rfl

/-- `x` lies `r` of `d` parts of the way from `magValue f mag` to the next magnitude's value, in steps of `c`. -/
structure Between (f : FpFmt) (x : ℚ) (mag d r : Nat) (c : ℚ) : Prop where
  step : 0 < c
  excess : x = magValue f mag + r * c
  next : magValue f (mag + 1) = magValue f mag + d * c
  lt : r < d

namespace Between

variable {f : FpFmt} {x c : ℚ} {mag d r : Nat}

theorem le (h : Between f x mag d r c) : magValue f mag ≤ x := by
  have := mul_nonneg (Nat.cast_nonneg (α := ℚ) r) h.step.le
  linarith [h.excess]

theorem lt_next (h : Between f x mag d r c) : x < magValue f (mag + 1) := by
  have := mul_lt_mul_of_pos_right (Nat.cast_lt (α := ℚ).2 h.lt) h.step
  linarith [h.excess, h.next]

theorem eq_iff (h : Between f x mag d r c) : magValue f mag = x ↔ r = 0 := by
  rw [h.excess, left_eq_add, mul_eq_zero, Nat.cast_eq_zero, or_iff_left h.step.ne']

theorem lt_of_ne (h : Between f x mag d r c) (hr : r ≠ 0) : magValue f mag < x :=
  h.le.lt_of_ne (mt h.eq_iff.1 hr)

theorem sub_low (h : Between f x mag d r c) : x - magValue f mag = r * c := by
  rw [h.excess]; ring

theorem sub_high (h : Between f x mag d r c) : magValue f (mag + 1) - x = (d - r) * c := by
  rw [h.excess, h.next]; ring

/-- Twice the excess against the distance of the neighbours. -/
theorem excess_le_iff (h : Between f x mag d r c) :
    x - magValue f mag ≤ magValue f (mag + 1) - x ↔ 2 * r ≤ d := by
  rw [h.sub_low, h.sub_high, mul_le_mul_iff_left₀ h.step, le_sub_iff_add_le, ← two_mul]
  norm_cast

theorem le_excess_iff (h : Between f x mag d r c) :
    magValue f (mag + 1) - x ≤ x - magValue f mag ↔ d ≤ 2 * r := by
  rw [h.sub_low, h.sub_high, mul_le_mul_iff_left₀ h.step, sub_le_iff_le_add, ← two_mul]
  norm_cast

/-- Rounding up to the magnitude itself when it is exact, to the next one otherwise. -/
theorem rounded_up (h : Between f x mag d r c) :
    x ≤ magValue f (mag + (r != 0).toNat)
      ∧ (mag + (r != 0).toNat = 0 ∨ magValue f (mag + (r != 0).toNat - 1) < x) := by
  by_cases hr : r = 0
  · subst hr
    have hx : magValue f mag = x := h.eq_iff.2 rfl
    exact ⟨hx.ge, hx ▸ magValue_pred_lt f mag⟩
  · rw [show (r != 0) = true by simpa using hr]
    exact ⟨h.lt_next.le, .inr (h.lt_of_ne hr)⟩

/-- The chosen neighbour is what the mode asks for. -/
theorem isRounded (h : Between f x mag d r c) (rnd : Config.Rnd) (neg : Bool) {k : Nat} (hk : mag % 2 = k % 2) :
    IsRounded f rnd neg x (mag + (roundsUp rnd neg d r k).toNat) := by
  have down : magValue f mag ≤ x ∧ x < magValue f (mag + 1) := ⟨h.le, h.lt_next⟩
  cases rnd with
  | rz => exact down
  | rp =>
    cases neg with
    | true => simpa [roundsUp, IsRounded] using down
    | false => simpa [roundsUp, IsRounded] using h.rounded_up
  | rm =>
    cases neg with
    | true => simpa [roundsUp, IsRounded] using h.rounded_up
    | false => simpa [roundsUp, IsRounded] using down
  | rn =>
    cases hup : roundsUp .rn neg d r k with
    | false =>
      simp only [roundsUp, Bool.or_eq_false_iff, Bool.and_eq_false_iff, decide_eq_false_iff_not,
        beq_eq_false_iff_ne] at hup
      change IsRounded f .rn neg x mag
      refine isRounded_nearest_low neg h.le (h.excess_le_iff.2 (by omega)) fun ht => ?_
      have := h.le_excess_iff.1 ht.ge
      omega
    | true =>
      simp only [roundsUp, Bool.or_eq_true, Bool.and_eq_true, decide_eq_true_eq, beq_iff_eq] at hup
      refine isRounded_nearest_high neg h.lt_next.le (h.le_excess_iff.2 (by omega)) fun ht => ?_
      have := h.excess_le_iff.1 ht.ge
      omega

/-- The value changes exactly when there is an excess. -/
theorem inexact_iff (h : Between f x mag d r c) (rnd : Config.Rnd) (neg : Bool) (k : Nat) :
    r ≠ 0 ↔ magValue f (mag + (roundsUp rnd neg d r k).toNat) ≠ x := by
  by_cases hr : r = 0
  · subst hr
    simp [roundsUp_zero rnd neg (Nat.zero_lt_of_lt h.lt), h.eq_iff]
  · refine iff_of_true hr ?_
    cases roundsUp rnd neg d r k with
    | false => exact (h.lt_of_ne hr).ne
    | true => exact h.lt_next.ne'

end Between

/-! ### The rounding step -/

/-- The exponent of the last bit that rounding keeps. -/
def lastExp (f : FpFmt) (m : Nat) (e : Int) : Int := max (leadExp m e - f.fracBits) f.ulpMin

/-- The magnitude below the number, with its significand. -/
def lowMag (f : FpFmt) (m : Nat) (e : Int) : Nat :=
  (lastExp f m e - f.ulpMin).toNat * 2 ^ f.fracBits
    + m * 2 ^ (-(lastExp f m e - e)).toNat / 2 ^ (lastExp f m e - e).toNat

theorem roundMag_eq (f : FpFmt) (rnd : Config.Rnd) (neg : Bool) (m : Nat) (e : Int) :
    roundMag f rnd neg m e =
      ((lastExp f m e - f.ulpMin).toNat * 2 ^ f.fracBits + (roundInt rnd neg m (lastExp f m e - e)).1,
        (roundInt rnd neg m (lastExp f m e - e)).2) := rfl

/-- The number in units of the last bit kept, as a fraction of whole numbers. -/
theorem finValue_scaled (m : Nat) (e q : Int) :
    finValue false m e = (m * 2 ^ (-(q - e)).toNat : Nat) * ((2 : ℚ) ^ q / 2 ^ (q - e).toNat) := by
  have hsplit : (2 : ℚ) ^ (q - e) * 2 ^ (-(q - e)).toNat = 2 ^ (q - e).toNat := by
    rw [← zpow_natCast, ← zpow_natCast, ← zpow_add₀ (by norm_num)]
    congr 1
    omega
  rw [← hsplit, zpow_sub₀ (by norm_num)]
  simp [finValue]
  field_simp

/-- The significand below the number fits, and has its leading bit unless the exponent is the lowest. -/
theorem significand_bounds (f : FpFmt) {m : Nat} (hm : m ≠ 0) (e : Int) :
    m * 2 ^ (-(lastExp f m e - e)).toNat / 2 ^ (lastExp f m e - e).toNat < 2 ^ (f.fracBits + 1)
      ∧ ((lastExp f m e - f.ulpMin).toNat = 0
        ∨ 2 ^ f.fracBits ≤ m * 2 ^ (-(lastExp f m e - e)).toNat / 2 ^ (lastExp f m e - e).toNat) := by
  have hlast : lastExp f m e = max (e + m.log2 - f.fracBits) f.ulpMin := rfl
  generalize lastExp f m e = q at *
  constructor
  · rw [Nat.div_lt_iff_lt_mul (Nat.two_pow_pos _), ← Nat.pow_add]
    calc m * 2 ^ (-(q - e)).toNat < 2 ^ (m.log2 + 1) * 2 ^ (-(q - e)).toNat :=
          Nat.mul_lt_mul_of_pos_right Nat.lt_log2_self (Nat.two_pow_pos _)
      _ = 2 ^ (m.log2 + 1 + (-(q - e)).toNat) := (Nat.pow_add ..).symm
      _ ≤ 2 ^ (f.fracBits + 1 + (q - e).toNat) := Nat.pow_le_pow_right (by decide) (by omega)
  · refine or_iff_not_imp_left.2 fun hE => ?_
    rw [Nat.le_div_iff_mul_le (Nat.two_pow_pos _), ← Nat.pow_add]
    calc 2 ^ (f.fracBits + (q - e).toNat) ≤ 2 ^ (m.log2 + (-(q - e)).toNat) :=
          Nat.pow_le_pow_right (by decide) (by omega)
      _ = 2 ^ m.log2 * 2 ^ (-(q - e)).toNat := Nat.pow_add ..
      _ ≤ m * 2 ^ (-(q - e)).toNat := Nat.mul_le_mul_right _ (Nat.log2_self_le hm)

/-- The number lies between that magnitude and the next. -/
theorem between_lowMag (f : FpFmt) {m : Nat} (hm : m ≠ 0) (e : Int) :
    Between f (finValue false m e) (lowMag f m e) (2 ^ (lastExp f m e - e).toNat)
      (m * 2 ^ (-(lastExp f m e - e)).toNat % 2 ^ (lastExp f m e - e).toNat)
      ((2 : ℚ) ^ lastExp f m e / 2 ^ (lastExp f m e - e).toNat) := by
  obtain ⟨hlt, hE⟩ := significand_bounds f hm e
  have hulp : f.ulpMin + ((lastExp f m e - f.ulpMin).toNat : Int) = lastExp f m e := by
    have : f.ulpMin ≤ lastExp f m e := le_max_right ..
    omega
  have hval := magValue_scaled f hE hlt.le
  have hnext := magValue_scaled f (hE.imp_right fun h => h.trans (Nat.le_succ _)) hlt
  rw [hulp] at hval hnext
  have hdiv := Nat.div_add_mod (m * 2 ^ (-(lastExp f m e - e)).toNat) (2 ^ (lastExp f m e - e).toNat)
  rw [finValue_scaled m e (lastExp f m e)]
  unfold lowMag
  generalize m * 2 ^ (-(lastExp f m e - e)).toNat = N at *
  generalize (lastExp f m e - e).toNat = a at *
  refine ⟨by positivity, ?_, ?_, Nat.mod_lt _ (Nat.two_pow_pos _)⟩
  · rw [hval]
    calc (N : ℚ) * (2 ^ lastExp f m e / 2 ^ a)
        = (2 ^ a * (N / 2 ^ a) + N % 2 ^ a : Nat) * (2 ^ lastExp f m e / 2 ^ a) := by rw [hdiv]
      _ = (N / 2 ^ a : Nat) * 2 ^ lastExp f m e + (N % 2 ^ a : Nat) * (2 ^ lastExp f m e / 2 ^ a) := by
        push_cast
        field_simp
  · rw [Nat.add_assoc, hnext, hval]
    push_cast
    field_simp

/-- The rounding step, for every format with a fraction (R38). -/
theorem roundMag_isRounded {f : FpFmt} (hf : 0 < f.fracBits) (rnd : Config.Rnd) (neg : Bool) {m : Nat} (hm : m ≠ 0)
    (e : Int) :
    IsRounded f rnd neg (finValue false m e) (roundMag f rnd neg m e).1
      ∧ ((roundMag f rnd neg m e).2 = true ↔ magValue f (roundMag f rnd neg m e).1 ≠ finValue false m e) := by
  have hb := between_lowMag f hm e
  have heven : lowMag f m e % 2 = m * 2 ^ (-(lastExp f m e - e)).toNat / 2 ^ (lastExp f m e - e).toNat % 2 := by
    obtain ⟨n, hn⟩ := Nat.exists_eq_add_of_lt hf
    rw [lowMag, hn, Nat.zero_add, Nat.pow_succ, ← Nat.mul_assoc, Nat.mul_add_mod_self_right]
  rw [roundMag_eq, roundInt_eq, ← Nat.add_assoc]
  refine ⟨hb.isRounded rnd neg heven, ?_⟩
  rw [bne_iff_ne]
  exact hb.inexact_iff rnd neg _

/-- Settles O27: both formats have a fraction. -/
theorem roundingIsCorrect : Obligations.RoundingIsCorrect := by
  rintro f rnd neg m e (rfl | rfl) hm
  · exact roundMag_isRounded (by decide) rnd neg hm e
  · exact roundMag_isRounded (by decide) rnd neg hm e

end Sys2Proof.Machine

/-! SUPPORT. Effective addresses, the checks of a data access, and what a stored word reads back as
(spec/20_memory.md R84 to R93). -/

namespace Sys2Proof.Machine

variable {s t u : State}

/-! ### The checks of a data access -/

/-- The effective address is the integer sum modulo 2^32 (R91). -/
theorem State.ea_eq_ofInt (s : State) (b : RegNum) (dis : BitVec 16) :
    s.ea b dis = BitVec.ofInt 32 ((s.reg b).toInt + dis.toInt) := by
  rw [BitVec.ofInt_add, BitVec.ofInt_toInt, State.ea, BitVec.signExtend]

/-- The effective address keeps the remainder of the integer sum modulo every size of an access (R87, R91). -/
theorem State.ea_toNat_emod (s : State) (b : RegNum) (dis : BitVec 16) {n : Nat} (hn : n ∣ 2 ^ 32) :
    ((s.ea b dis).toNat % n : Nat) = ((s.reg b).toInt + dis.toInt) % (n : Int) := by
  have hn' : (n : Int) ∣ ((2 ^ 32 : Nat) : Int) := Int.natCast_dvd_natCast.2 hn
  rw [Int.natCast_emod, State.ea_eq_ofInt, BitVec.toNat_ofInt, Int.toNat_of_nonneg (Int.emod_nonneg _ (by decide)),
    Int.emod_emod_of_dvd _ hn']

theorem State.ea_misaligned {b : RegNum} {dis : BitVec 16} {n : Nat} (hn : n ∣ 2 ^ 32)
    (h : ((s.reg b).toInt + dis.toInt) % (n : Int) ≠ 0) : (s.ea b dis).toNat % n ≠ 0 := fun h0 =>
  h (by rw [← s.ea_toNat_emod b dis hn, h0]; rfl)

theorem State.ea_aligned {b : RegNum} {dis : BitVec 16} {n : Nat} (hn : n ∣ 2 ^ 32)
    (h : ((s.reg b).toInt + dis.toInt) % (n : Int) = 0) : (s.ea b dis).toNat % n = 0 := by
  have := s.ea_toNat_emod b dis hn
  omega

/-- A misaligned access raises E3 and does nothing else (R87, R503). -/
theorem raises_of_misaligned {i : Instr} {n : Nat} {b : RegNum} {dis : BitVec 16} {k : Result}
    (hi : exec i s = withAccess s n (s.ea b dis) k) (hn : n ∣ 2 ^ 32)
    (h : ((s.reg b).toInt + dis.toInt) % (n : Int) ≠ 0) : Raises i s 3 :=
  ⟨s.raise 3, hi.trans (withAccess_misaligned k (State.ea_misaligned hn h)), raised_raise s (by decide)⟩

/-- An aligned access that answers a next state was made (R87). -/
theorem withAccess_next_aligned {n : Nat} {a : Word} {k : Result} (ha : a.toNat % n = 0)
    (h : withAccess s n a k = .next t) : k = .next t := by
  obtain ⟨hn, _⟩ | ⟨_, _, h⟩ := withAccess_next h
  · exact absurd ha hn
  · exact h

/-- An aligned access whose effect leaves CR raises nothing (R87). -/
theorem withAccess_cr {n : Nat} {a : Word} (h : withAccess s n a (done u) = .next t) (ha : a.toNat % n = 0)
    (hu : u.cr = s.cr) : t.cr = s.cr := by
  rw [done_next (withAccess_next_aligned ha h), State.cr_advance, hu]

/-- Settles O12: the check of `DM_POPULATED` comes after the alignment check of the same access. -/
theorem unpopulatedAccessStops : Obligations.UnpopulatedAccessStops := by
  rintro s r b dis _ rfl
  refine ⟨fun hp => ?byte, fun ha hp => ?half, fun ha hp => ?word⟩
  case byte =>
    have hs (k : Result) := withAccess_unpopulated k (Nat.mod_one _) hp
    exact ⟨hs _, hs _, hs _⟩
  case half =>
    have hs (k : Result) := withAccess_unpopulated k ha hp
    exact ⟨hs _, hs _, hs _⟩
  case word =>
    have hs (k : Result) := withAccess_unpopulated k ha hp
    exact ⟨hs _, hs _, hs _, hs _⟩

/-- Settles O11: the effective address has the remainder of the integer sum, and the access checks it first. -/
theorem misalignedAccessRaises : Obligations.MisalignedAccessRaises := by
  rintro s r b dis _ rfl
  have half : 2 ∣ 2 ^ 32 := by decide
  have word : 4 ∣ 2 ^ 32 := by decide
  refine ⟨fun h => ⟨raises_of_misaligned rfl half h, raises_of_misaligned rfl half h, raises_of_misaligned rfl half h⟩,
    fun h => ⟨raises_of_misaligned rfl word h, raises_of_misaligned rfl word h, raises_of_misaligned rfl word h,
      raises_of_misaligned rfl word h⟩, ?aligned⟩
  case aligned =>
    rintro i t he (rfl | rfl | rfl | ⟨h, rfl | rfl | rfl⟩ | ⟨h, rfl | rfl | rfl | rfl⟩)
    iterate 3 exact withAccess_cr he (Nat.mod_one _) rfl
    iterate 3 exact withAccess_cr he (State.ea_aligned half h) rfl
    iterate 4 exact withAccess_cr he (State.ea_aligned word h) rfl

/-! ### A stored word, read back -/

/-- Byte `k` from the top of a word written at `a` stands at `a + k` (R85). -/
theorem State.byteAt_memWrite4 (a : Word) (v : Word) (hw : s.dm.wf = true) {k : Nat} (hk : k < 4) :
    (s.memWrite4 a v).byteAt (a + BitVec.ofNat 32 k) = v.extractLsb' (24 - 8 * k) 8 := by
  have h1 := State.dm_wf_setByte s a (v.extractLsb' 24 8) hw
  have h2 := State.dm_wf_setByte _ (a + 1#32) (v.extractLsb' 16 8) h1
  have h3 := State.dm_wf_setByte _ (a + 2#32) (v.extractLsb' 8 8) h2
  simp only [State.memWrite4, State.byteAt_setByte _ _ _ _ h3, State.byteAt_setByte _ _ _ _ h2,
    State.byteAt_setByte _ _ _ _ h1, State.byteAt_setByte _ _ _ _ hw]
  match k, hk with
  | 0, _ => simp
  | 1, _ => simp
  | 2, _ => simp
  | 3, _ => simp

/-- Half `k` from the top of a word written at `a` stands at `a + 2k` (R86). -/
theorem State.memRead2_memWrite4 (a : Word) (v : Word) (hw : s.dm.wf = true) {k : Nat} (hk : k < 2) :
    (s.memWrite4 a v).memRead2 (a + BitVec.ofNat 32 (2 * k)) = v.extractLsb' (16 - 16 * k) 16 := by
  have hnext : a + BitVec.ofNat 32 (2 * k) + 1#32 = a + BitVec.ofNat 32 (2 * k + 1) := by
    rw [BitVec.ofNat_add, BitVec.add_assoc]
  have hstart : 24 - 8 * (2 * k + 1) = 16 - 16 * k := by omega
  rw [State.memRead2, hnext, State.byteAt_memWrite4 a v hw (by omega), State.byteAt_memWrite4 a v hw (by omega),
    BitVec.extractLsb'_append_extractLsb'_eq_extractLsb' (by omega), hstart]

/-- A word written at `a` stands at `a` (R86). -/
theorem State.memRead4_memWrite4 (a : Word) (v : Word) (hw : s.dm.wf = true) : (s.memWrite4 a v).memRead4 a = v := by
  have byte {k : Nat} (hk : k < 4) := State.byteAt_memWrite4 a v hw hk
  have h0 : (s.memWrite4 a v).byteAt a = v.extractLsb' 24 8 := by simpa using byte (k := 0) (by decide)
  have h1 : (s.memWrite4 a v).byteAt (a + 1#32) = v.extractLsb' 16 8 := byte (k := 1) (by decide)
  have h2 : (s.memWrite4 a v).byteAt (a + 2#32) = v.extractLsb' 8 8 := byte (k := 2) (by decide)
  have h3 : (s.memWrite4 a v).byteAt (a + 3#32) = v.extractLsb' 0 8 := byte (k := 3) (by decide)
  rw [State.memRead4, h0, h1, h2, h3,
    BitVec.extractLsb'_append_extractLsb'_eq_extractLsb' (by rfl : 24 = 16 + 8),
    BitVec.extractLsb'_append_extractLsb'_eq_extractLsb' (by rfl : 16 = 8 + 8),
    BitVec.extractLsb'_append_extractLsb'_eq_extractLsb' (by rfl : 8 = 0 + 8)]
  exact BitVec.extractLsb'_eq_self

@[simp] theorem State.memRead2_advance (s : State) (a : Word) : s.advance.memRead2 a = s.memRead2 a := rfl
@[simp] theorem State.memRead4_advance (s : State) (a : Word) : s.advance.memRead4 a = s.memRead4 a := rfl

/-- An aligned load that answers a next state puts the value read into its register (R233). -/
theorem reg_of_load {n : Nat} {a : Word} {d : RegNum} {v : Word} (h : withAccess s n a (done (s.setReg d v)) = .next t)
    (ha : a.toNat % n = 0) : t.reg d = v := by
  rw [done_next (withAccess_next_aligned ha h), State.reg, State.gpr_advance, State.gpr_setReg, if_pos rfl]

theorem exec_storeW (x b : RegNum) (dis : BitVec 16) :
    exec (.storeW x b dis) s = withAccess s 4 (s.ea b dis) (done (s.memWrite4 (s.ea b dis) (s.reg x))) := rfl

theorem exec_loaduB (d b : RegNum) (dis : BitVec 16) :
    exec (.loaduB d b dis) s
      = withAccess s 1 (s.ea b dis) (done (s.setReg d ((s.memRead1 (s.ea b dis)).setWidth 32))) := rfl

theorem exec_loaduH (d b : RegNum) (dis : BitVec 16) :
    exec (.loaduH d b dis) s
      = withAccess s 2 (s.ea b dis) (done (s.setReg d ((s.memRead2 (s.ea b dis)).setWidth 32))) := rfl

theorem exec_loadW (d b : RegNum) (dis : BitVec 16) :
    exec (.loadW d b dis) s = withAccess s 4 (s.ea b dis) (done (s.setReg d (s.memRead4 (s.ea b dis)))) := rfl

/-- Settles O13: a load of part of the word is aligned there, so it reads what the store wrote. -/
theorem storedWordReadsBack : Obligations.StoredWordReadsBack := by
  rintro s t u x b d b' dis dis' _ rfl hw ha hs
  rw [exec_storeW] at hs
  have ht := done_next (withAccess_next_aligned ha hs)
  refine ⟨fun k hk hea hl => ?byte, fun k hk hea hl => ?half, fun hea hl => ?word⟩
  case byte =>
    have hread : t.memRead1 (t.ea b' dis') = (s.reg x).extractLsb' (24 - 8 * k) 8 := by
      rw [hea, ht, State.memRead1, State.byteAt_advance, State.byteAt_memWrite4 _ _ hw hk]
    rw [exec_loaduB] at hl
    rw [reg_of_load hl (Nat.mod_one _), hread, BitVec.toNat_setWidth, BitVec.extractLsb'_toNat, Nat.shiftRight_eq_div_pow]
    omega
  case half =>
    have hread : t.memRead2 (t.ea b' dis') = (s.reg x).extractLsb' (16 - 16 * k) 16 := by
      rw [hea, ht, State.memRead2_advance, State.memRead2_memWrite4 _ _ hw hk]
    have hal : (t.ea b' dis').toNat % 2 = 0 := by
      rw [hea, BitVec.toNat_add, BitVec.toNat_ofNat]; omega
    rw [exec_loaduH] at hl
    rw [reg_of_load hl hal, hread, BitVec.toNat_setWidth, BitVec.extractLsb'_toNat, Nat.shiftRight_eq_div_pow]
    omega
  case word =>
    have hread : t.memRead4 (t.ea b' dis') = s.reg x := by
      rw [hea, ht, State.memRead4_advance, State.memRead4_memWrite4 _ _ hw]
    rw [exec_loadW] at hl
    rw [reg_of_load hl (hea ▸ ha), hread]

end Sys2Proof.Machine

/-! SUPPORT. No step changes the instruction memory or the parameters (spec/20_memory.md R82, R97; log 1). -/

namespace Sys2Proof.Machine

variable {s t u : State}

/-- Instruction memory and the parameters are the same in both states. -/
structure SameCode (s t : State) : Prop where
  im : t.im = s.im
  params : t.params = s.params

namespace SameCode

theorem trans (h : SameCode s t) (g : SameCode t u) : SameCode s u := ⟨g.im.trans h.im, g.params.trans h.params⟩

theorem writeSpr {k : RegNum} {v : Word} (h : s.writeSpr k v = some t) : SameCode s t := by
  obtain ⟨_, rfl⟩ | ⟨_, rfl⟩ | ⟨_, rfl⟩ | ⟨_, rfl⟩ | ⟨_, rfl⟩ | ⟨_, rfl⟩ := State.writeSpr_some h
  · rw [State.writeCfg_eq]; exact ⟨rfl, rfl⟩
  all_goals exact ⟨rfl, rfl⟩

theorem exec {i : Instr} (h : exec i s = .next t) : SameCode s t := by
  cases exec_effect h with
  | ordinary o => exact ⟨o.system.im, o.system.params⟩
  | storeB | storeH | storeW | storeF => constructor <;> simp
  | leave => rw [State.leave_eq]; exact ⟨rfl, rfl⟩
  | writeSpr _ hw => exact (writeSpr hw).trans ⟨rfl, rfl⟩

/-- Reset too keeps both (spec/70_reset_and_hazards.md R570). -/
theorem event (s : State) (e : EnvEvent) : SameCode s (s.event e) := by
  cases e with
  | reset => exact ⟨rfl, rfl⟩
  | tick =>
    change SameCode s s.timerTick
    rw [State.timerTick_eq]; exact ⟨rfl, rfl⟩
  | irqRaise post => cases post <;> exact ⟨rfl, rfl⟩
  | peripheralPost => exact ⟨rfl, rfl⟩

theorem environment (s : State) : SameCode s s.environment :=
  State.environment_induction s ⟨rfl, rfl⟩ (fun u h => h.trans (event u .reset)) (fun u e h _ => h.trans (event u e))

theorem detect (s : State) : SameCode s s.detect := by
  obtain ⟨k, _, hd⟩ | ⟨_, hd⟩ := s.detect_cases
  · rw [hd, State.enter_eq]; exact ⟨rfl, rfl⟩
  · rw [hd]; exact ⟨rfl, rfl⟩

theorem fetched (s : State) (w : Word) : SameCode s (s.begin.fetched w) :=
  ((environment s).trans (detect _)).trans ⟨rfl, rfl⟩

theorem step (h : step s = .next t) : SameCode s t := by
  obtain ⟨w, ⟨i, hi⟩ | rfl⟩ := step_next h
  · exact (fetched s w).trans (exec hi)
  · exact (fetched s w).trans ⟨rfl, rfl⟩

end SameCode

/-- Settles O55: the environment, detection and the inversion lemma of `exec` each keep both. -/
theorem stepKeepsCode : Obligations.StepKeepsCode := fun _ _ h => ⟨(SameCode.step h).im, (SameCode.step h).params⟩

end Sys2Proof.Machine

/-! SUPPORT. Only the loads and stores reach data memory: every other instruction, the environment's events and
detection act alike whatever it holds (spec/20_memory.md R81). -/

namespace Sys2Proof.Machine

variable {s t : State} {m : Memory}

/-! ### Another data memory in a state and in an answer -/

/-- The state with `m` as its data memory. -/
def State.withData (s : State) (m : Memory) : State := { s with dm := m }

/-- The answer with `m` as the data memory of its next state. -/
def answerWith (m : Memory) : Result → Result
  | .next t => .next (t.withData m)
  | .fault r => .fault r
  | .refused r => .refused r

/-- A choice whose condition does not depend on data memory. -/
theorem ite_withData {c : Prop} [Decidable c] {q' q r' r : Result} (hq : q' = answerWith m q)
    (hr : r' = answerWith m r) : (if c then q' else r') = answerWith m (if c then q else r) := by
  rw [apply_ite (answerWith m), hq, hr]

/-- A check that raises its cause or goes on. -/
theorem checked_withData {c : Prop} [Decidable c] {k : Nat} {r' r : Result} (hr : r' = answerWith m r) :
    (if c then .next ((s.withData m).raise k) else r') = answerWith m (if c then .next (s.raise k) else r) :=
  ite_withData rfl hr

/-! ### The operations on the state -/

theorem State.ite_withData {c : Prop} [Decidable c] {u' u v' v : State} (hu : u' = u.withData m)
    (hv : v' = v.withData m) : (if c then u' else v') = (if c then u else v).withData m := by
  rw [apply_ite (State.withData · m), hu, hv]

theorem State.pendIf_withData (b : Bool) (k : Nat) : (s.withData m).pendIf b k = (s.pendIf b k).withData m :=
  State.ite_withData rfl rfl

theorem State.pendCauses_withData (c : Causes) : (s.withData m).pendCauses c = (s.pendCauses c).withData m := by
  simp only [State.pendCauses, State.pendIf_withData]

theorem State.startStrobe_withData {t' : State} (h : t' = t.withData m) :
    t'.startStrobe = t.startStrobe.withData m := by
  rw [h]; exact State.ite_withData rfl rfl

theorem State.writeCfg_withData (v : Word) : (s.withData m).writeCfg v = (s.writeCfg v).withData m :=
  State.ite_withData (State.startStrobe_withData rfl) rfl

theorem State.writeSpr_withData (k : RegNum) (v : Word) :
    (s.withData m).writeSpr k v = (s.writeSpr k v).map (State.withData · m) := by
  unfold State.writeSpr
  split
  case h_1 => rw [State.writeCfg_withData]; rfl
  all_goals rfl

theorem State.leave_withData : (s.withData m).leave = s.leave.withData m :=
  State.ite_withData rfl rfl

theorem State.saveReturn_withData (k : Nat) : (s.withData m).saveReturn k = (s.saveReturn k).withData m :=
  State.ite_withData rfl rfl

theorem State.enter_withData (k : Nat) : (s.withData m).enter k = (s.enter k).withData m := by
  unfold State.enter
  rw [State.saveReturn_withData]
  rfl

theorem State.detect_withData : (s.withData m).detect = s.detect.withData m := by
  have hp : (s.withData m).pendingCause = s.pendingCause := rfl
  unfold State.detect
  rw [hp]
  cases s.pendingCause with
  | none => rfl
  | some k => exact State.enter_withData k

theorem State.timerTick_withData : (s.withData m).timerTick = s.timerTick.withData m :=
  State.ite_withData (State.ite_withData rfl rfl) (State.ite_withData rfl rfl)

/-- Every event, a Reset too, which keeps both memories (spec/70_reset_and_hazards.md R570). -/
theorem State.event_withData (e : EnvEvent) : (s.withData m).event e = (s.event e).withData m := by
  cases e with
  | tick => exact State.timerTick_withData
  | irqRaise post => cases post <;> rfl
  | reset | peripheralPost => rfl

theorem foldl_event_withData (evs : List EnvEvent) {t' t : State} (h : t' = t.withData m) :
    evs.foldl State.event t' = (evs.foldl State.event t).withData m := by
  induction evs generalizing t' t with
  | nil => exact h
  | cons e rest ih => exact ih (h ▸ State.event_withData e)

theorem State.environment_withData : (s.withData m).environment = s.environment.withData m :=
  State.ite_withData rfl (foldl_event_withData _ rfl)

theorem State.dm_of_writeSpr {k : RegNum} {v : Word} (h : s.writeSpr k v = some t) : t.dm = s.dm := by
  obtain ⟨_, rfl⟩ | ⟨_, rfl⟩ | ⟨_, rfl⟩ | ⟨_, rfl⟩ | ⟨_, rfl⟩ | ⟨_, rfl⟩ := State.writeSpr_some h
  · rw [State.writeCfg_eq]
  all_goals rfl

/-! ### The operand forms -/

theorem binaryL_withData {op : Long → Long → AluOut 64} {dst s1 s2 : RegNum} :
    binaryL op dst s1 s2 (s.withData m) = answerWith m (binaryL op dst s1 s2 s) := checked_withData rfl

theorem unaryL_withData {op : Long → AluOut 64} {dst src : RegNum} :
    unaryL op dst src (s.withData m) = answerWith m (unaryL op dst src s) := checked_withData rfl

theorem divideW_withData {op : Word → Word → AluOut 32} {dst s1 s2 : RegNum} :
    divideW op dst s1 s2 (s.withData m) = answerWith m (divideW op dst s1 s2 s) := checked_withData rfl

theorem divideL_withData {op : Long → Long → AluOut 64} {dst s1 s2 : RegNum} :
    divideL op dst s1 s2 (s.withData m) = answerWith m (divideL op dst s1 s2 s) :=
  checked_withData (checked_withData binaryL_withData)

theorem needFpu_withData {r' r : Result} (hr : r' = answerWith m r) :
    needFpu (s.withData m) r' = answerWith m (needFpu s r) := ite_withData hr rfl

theorem needCordic_withData {r' r : Result} (hr : r' = answerWith m r) :
    needCordic (s.withData m) r' = answerWith m (needCordic s r) := ite_withData hr rfl

theorem needCordicFpu_withData {r' r : Result} (hr : r' = answerWith m r) :
    needCordicFpu (s.withData m) r' = answerWith m (needCordicFpu s r) :=
  needCordic_withData (ite_withData hr rfl)

theorem fpuF_withData {op : FpuOp} {dst s1 s2 : RegNum} :
    fpuF op dst s1 s2 (s.withData m) = answerWith m (fpuF op dst s1 s2 s) := by
  refine ite_withData ?_ rfl
  simp only [State.pendCauses_withData]; rfl

theorem fpuD_withData {op : FpuOp} {dst s1 s2 : RegNum} :
    fpuD op dst s1 s2 (s.withData m) = answerWith m (fpuD op dst s1 s2 s) := by
  refine ite_withData (checked_withData ?_) rfl
  simp only [State.pendCauses_withData]; rfl

theorem cordic1W_withData {fn : Config.Cordic1Fn} {dst src : RegNum} :
    cordic1W fn dst src (s.withData m) = answerWith m (cordic1W fn dst src s) := needCordic_withData rfl

theorem cordic1L_withData {fn : Config.Cordic1Fn} {dst src : RegNum} :
    cordic1L fn dst src (s.withData m) = answerWith m (cordic1L fn dst src s) := needCordic_withData unaryL_withData

theorem cordic1F_withData {fn : Config.Cordic1Fn} {dst src : RegNum} :
    cordic1F fn dst src (s.withData m) = answerWith m (cordic1F fn dst src s) := needCordicFpu_withData rfl

theorem cordic1D_withData {fn : Config.Cordic1Fn} {dst src : RegNum} :
    cordic1D fn dst src (s.withData m) = answerWith m (cordic1D fn dst src s) :=
  needCordicFpu_withData (checked_withData rfl)

theorem cordic2W_withData {fn : Config.Cordic2Fn} {dst s1 s2 : RegNum} :
    cordic2W fn dst s1 s2 (s.withData m) = answerWith m (cordic2W fn dst s1 s2 s) := needCordic_withData rfl

theorem cordic2L_withData {fn : Config.Cordic2Fn} {dst s1 s2 : RegNum} :
    cordic2L fn dst s1 s2 (s.withData m) = answerWith m (cordic2L fn dst s1 s2 s) := needCordic_withData binaryL_withData

theorem cordic2F_withData {fn : Config.Cordic2Fn} {dst s1 s2 : RegNum} :
    cordic2F fn dst s1 s2 (s.withData m) = answerWith m (cordic2F fn dst s1 s2 s) := needCordicFpu_withData rfl

theorem cordic2D_withData {fn : Config.Cordic2Fn} {dst s1 s2 : RegNum} :
    cordic2D fn dst s1 s2 (s.withData m) = answerWith m (cordic2D fn dst s1 s2 s) :=
  needCordicFpu_withData (checked_withData rfl)

theorem execMultL_withData {dst s1 s2 : RegNum} :
    execMultL dst s1 s2 (s.withData m) = answerWith m (execMultL dst s1 s2 s) := by
  have hp : (s.withData m).params.multLMode = s.params.multLMode := rfl
  unfold execMultL
  rw [hp]
  cases s.params.multLMode with
  | pairByPair => exact binaryL_withData
  | wordByWord => exact checked_withData rfl

theorem execMovs2w_withData {dst k : RegNum} :
    execMovs2w dst k (s.withData m) = answerWith m (execMovs2w dst k s) := by
  have hr : (s.withData m).readSpr k = s.readSpr k := rfl
  refine checked_withData ?_
  rw [hr]
  cases s.readSpr k <;> rfl

theorem execMovw2s_withData {k src : RegNum} :
    execMovw2s k src (s.withData m) = answerWith m (execMovw2s k src s) := by
  have hr : (s.withData m).reg src = s.reg src := rfl
  refine checked_withData ?_
  rw [hr, State.writeSpr_withData]
  cases s.writeSpr k (s.reg src) <;> rfl

theorem execRfe_withData : execRfe (s.withData m) = answerWith m (execRfe s) := by
  refine checked_withData ?_
  rw [State.leave_withData]; rfl

/-! ### Every instruction -/

/-- The instruction is none of the four stores. -/
def NoStore (i : Instr) : Prop :=
  ∀ r b dis, i ≠ .storeB r b dis ∧ i ≠ .storeH r b dis ∧ i ≠ .storeW r b dis ∧ i ≠ .storeF r b dis

/-- The instruction is none of the four stores and the six loads. -/
def NoDataAccess (i : Instr) : Prop :=
  ∀ r b dis, i ≠ .storeB r b dis ∧ i ≠ .storeH r b dis ∧ i ≠ .storeW r b dis ∧ i ≠ .storeF r b dis
    ∧ i ≠ .loadB r b dis ∧ i ≠ .loaduB r b dis ∧ i ≠ .loadH r b dis ∧ i ≠ .loaduH r b dis ∧ i ≠ .loadW r b dis
    ∧ i ≠ .loadF r b dis

/-- Only the four stores write data memory (R81). -/
theorem exec_keepsData {i : Instr} (h : exec i s = .next t) (hi : NoStore i) : t.dm = s.dm := by
  cases exec_effect h with
  | ordinary o => exact o.data
  | storeB r b dis | storeH r b dis | storeW r b dis | storeF r b dis => exact absurd (hi r b dis) (by simp)
  | leave => rw [State.leave_eq]
  | writeSpr _ hw => rw [State.dm_advance, State.dm_of_writeSpr hw]

/-- What an instruction that is no load and no store answers does not depend on data memory. -/
theorem exec_withData {i : Instr} (hi : NoDataAccess i) : exec i (s.withData m) = answerWith m (exec i s) := by
  cases i with
  | storeB r b dis | storeH r b dis | storeW r b dis | storeF r b dis | loadB r b dis | loaduB r b dis | loadH r b dis
  | loaduH r b dis | loadW r b dis | loadF r b dis => exact absurd (hi r b dis) (by simp)
  | rfe => exact execRfe_withData
  | movw2s => exact execMovw2s_withData
  | movs2w => exact execMovs2w_withData
  | j | jr | jal | jral | trap => rfl
  | bc | bv | bz | bn | bnc | bnv | bnz | bnn | bfpan | bfpinf | bfpz | bfpn | bfpnan | bfpninf | bfpnz | bfpnn => rfl
  | movW | movf2w | movn2fgG | movfg2nG | movfg2nF | loadi | loadui | lhi | addiW | adduiW | subiW | subuiW | invW =>
    rfl
  | movF | movw2f | movn2fgF => rfl
  | movL | movD => exact checked_withData rfl
  | movd2l | movl2d => exact checked_withData (checked_withData rfl)
  | addW | subW | multW | andW | orW | xorW | rlW | rrW | slW | sraW | srlW => rfl
  | addL | subL | andL | orL | xorL | rlL | rrL | slL | sraL | srlL => exact binaryL_withData
  | multL => exact execMultL_withData
  | divW | remW => exact divideW_withData
  | divL | remL => exact divideL_withData
  | addF | subF | multF | divF => exact fpuF_withData
  | addD | subD | multD | divD => exact fpuD_withData
  | invL => exact unaryL_withData
  | cosW | coshW | sinW | sinhW | sqrt1msqW | sqrt1psqW | atanW | atanhW | lnW | sqrtW => exact cordic1W_withData
  | cosL | coshL | sinL | sinhL | sqrt1msqL | sqrt1psqL | atanL | atanhL | lnL | sqrtL => exact cordic1L_withData
  | cosF | coshF | sinF | sinhF | sqrt1msqF | sqrt1psqF | atanF | atanhF | lnF | sqrtF => exact cordic1F_withData
  | cosD | coshD | sinD | sinhD | sqrt1msqD | sqrt1psqD | atanD | atanhD | lnD | sqrtD => exact cordic1D_withData
  | pol2recxW | pol2recyW | hyp2recxW | hyp2recyW | normW | atan2W => exact cordic2W_withData
  | pol2recxL | pol2recyL | hyp2recxL | hyp2recyL | normL | atan2L => exact cordic2L_withData
  | pol2recxF | pol2recyF | hyp2recxF | hyp2recyF | normF | atan2F => exact cordic2F_withData
  | pol2recxD | pol2recyD | hyp2recxD | hyp2recyD | normD | atan2D => exact cordic2D_withData
  | cnvf2w | cnvw2f => exact needFpu_withData rfl
  | cnvd2w | cnvd2f | cnvl2f | cnvf2d | cnvw2d | cnvf2l => exact needFpu_withData (checked_withData rfl)
  | cnvd2l | cnvl2d => exact needFpu_withData (checked_withData (checked_withData rfl))

/-- Settles O58: one lemma for what writes data memory, and a commuting square with another data memory in the state for
what reads it. -/
theorem onlyLoadsAndStoresReachData : Obligations.OnlyLoadsAndStoresReachData := by
  intro s m
  refine ⟨fun i t h hi => exec_keepsData h hi, fun i t h hi => ?blind, ?around⟩
  case blind =>
    calc exec i (s.withData m) = answerWith m (exec i s) := exec_withData hi
      _ = .next (t.withData m) := by rw [h]; rfl
  case around =>
    calc (s.withData m).environment.detect = (s.environment.withData m).detect := by rw [State.environment_withData]
      _ = s.environment.detect.withData m := State.detect_withData

end Sys2Proof.Machine

/-! SUPPORT. The decode procedure of spec/30_encoding.md R128: the selection by type, the undefined bits of each format,
and a word put together again from its fields. Both round trips through the encoder follow, format by format. -/

namespace Sys2Proof

open BitVec (extractLsb'_append_extractLsb'_eq_extractLsb')

variable {p : Config.Params} {w : Word} {i : Instr}

/-! ### Selection and undefined bits -/

theorem select_type0 (ht : fieldType w = 0b00#2) : select p w = decodeType0 w := by simp only [select, ht]
theorem select_type1 (ht : fieldType w = 0b01#2) : select p w = decodeType1 p w := by simp only [select, ht]
theorem select_type2 (ht : fieldType w = 0b10#2) : select p w = decodeType2 w := by simp only [select, ht]
theorem select_type3 (ht : fieldType w = 0b11#2) : select p w = decodeType3 w := by simp only [select, ht]

/-- There are four types (R110). -/
theorem fieldType_cases (w : Word) :
    fieldType w = 0b00#2 ∨ fieldType w = 0b01#2 ∨ fieldType w = 0b10#2 ∨ fieldType w = 0b11#2 := by
  have all : ∀ t : BitVec 2, t = 0b00#2 ∨ t = 0b01#2 ∨ t = 0b10#2 ∨ t = 0b11#2 := by decide
  exact all _

theorem undefinedMask_jump (ht : fieldType w = 0b00#2) (ho : fieldOp0 w = 0b00#2) : undefinedMask w = 0#32 := by
  simp only [undefinedMask, ht, ho, if_true]

theorem undefinedMask_type0 (ht : fieldType w = 0b00#2) (ho : fieldOp0 w ≠ 0b00#2) :
    undefinedMask w = 0x0FFFFFFF#32 := by
  simp only [undefinedMask, ht, ho, if_false]

theorem undefinedMask_jumpReg (ht : fieldType w = 0b01#2) (ho : fieldOp w = 0b0000#4) :
    undefinedMask w = 0x001FFFFF#32 := by
  simp only [undefinedMask, ht, ho, if_true]

theorem undefinedMask_branch (ht : fieldType w = 0b01#2) (ho : fieldOp w = 0b0010#4) : undefinedMask w = 0#32 := by
  simp [undefinedMask, ht, ho]

theorem undefinedMask_type1Dst (ht : fieldType w = 0b01#2) (hj : fieldOp w ≠ 0b0000#4) (hb : fieldOp w ≠ 0b0010#4) :
    undefinedMask w = 0x03E00000#32 := by
  simp only [undefinedMask, ht, hj, hb, if_false]

theorem undefinedMask_groupA (ht : fieldType w = 0b10#2) (ho : fieldOp w = 0b0000#4) :
    undefinedMask w = 0x0000F80F#32 := by
  simp only [undefinedMask, ht, ho, if_true]

theorem undefinedMask_groupE (ht : fieldType w = 0b10#2) (ho : fieldOp w = 0b1111#4) :
    undefinedMask w = 0x000007FF#32 := by
  simp [undefinedMask, ht, ho]

theorem undefinedMask_type2 (ht : fieldType w = 0b10#2) (ha : fieldOp w ≠ 0b0000#4) (he : fieldOp w ≠ 0b1111#4) :
    undefinedMask w = 0#32 := by
  simp only [undefinedMask, ht, ha, he, if_false]

theorem undefinedMask_type3 (ht : fieldType w = 0b11#2) : undefinedMask w = 0x3C00000F#32 := by
  unfold undefinedMask; rw [ht]; rfl

/-! ### The answers of the decoder -/

theorem decode_eq_ok_iff : decode p w = .ok i ↔ select p w = some i ∧ w &&& undefinedMask w = 0#32 := by
  unfold decode
  cases select p w with
  | none => simp
  | some k => by_cases hu : w &&& undefinedMask w = 0#32 <;> simp [hu]

theorem decode_unassigned (hs : select p w = none) : decode p w = .unassigned := by
  simp only [decode, hs]

theorem decode_undefinedBits (hs : select p w = some i) (hu : w &&& undefinedMask w ≠ 0#32) :
    decode p w = .undefinedBits i := by
  simp only [decode, hs, hu, if_false]

/-! ### A word from its fields -/

/-- Bits that a mask covers are zero when the masked word is. -/
theorem extract_eq_zero_of_mask {m : Word} {lo len : Nat} (h : w &&& m = 0#32)
    (hm : m.extractLsb' lo len = BitVec.allOnes len) : w.extractLsb' lo len = 0#len :=
  calc w.extractLsb' lo len = w.extractLsb' lo len &&& m.extractLsb' lo len := by rw [hm, BitVec.and_allOnes]
    _ = (w &&& m).extractLsb' lo len := BitVec.extractLsb'_and.symm
    _ = 0#len := by rw [h, BitVec.extractLsb'_zero]

/-- The upper half of a word with an opcode and two register fields (R112 to R114). -/
theorem upperHalf_of_fields (w : Word) :
    fieldType w ++ fieldOp w ++ fieldSrc w ++ fieldDst w = w.extractLsb' 16 16 := by
  unfold fieldType fieldOp fieldSrc fieldDst
  rw [extractLsb'_append_extractLsb'_eq_extractLsb' (start₂ := 30) rfl,
    extractLsb'_append_extractLsb'_eq_extractLsb' (start₂ := 26) rfl,
    extractLsb'_append_extractLsb'_eq_extractLsb' (start₂ := 21) rfl]

theorem encodeType0_of_fields (ht : fieldType w = 0b00#2) : encodeType0 (fieldOp0 w) (fieldDis28 w) = w :=
  calc encodeType0 (fieldOp0 w) (fieldDis28 w) = fieldType w ++ fieldOp0 w ++ fieldDis28 w := by rw [ht]; rfl
    _ = w := by
      unfold fieldType fieldOp0 fieldDis28
      rw [extractLsb'_append_extractLsb'_eq_extractLsb' (start₂ := 30) rfl,
        extractLsb'_append_extractLsb'_eq_extractLsb' (start₂ := 28) rfl]
      exact extract_all w

theorem encodeJumpReg_of_fields (ht : fieldType w = 0b01#2) (ho : fieldOp w = 0b0000#4)
    (hu : w &&& 0x001FFFFF#32 = 0#32) : encodeJumpReg (fieldSrc w) = w :=
  calc encodeJumpReg (fieldSrc w) = fieldType w ++ fieldOp w ++ fieldSrc w ++ w.extractLsb' 0 21 := by
        rw [ht, ho, extract_eq_zero_of_mask hu rfl]; rfl
    _ = w := by
      unfold fieldType fieldOp fieldSrc
      rw [extractLsb'_append_extractLsb'_eq_extractLsb' (start₂ := 30) rfl,
        extractLsb'_append_extractLsb'_eq_extractLsb' (start₂ := 26) rfl,
        extractLsb'_append_extractLsb'_eq_extractLsb' (start₂ := 21) rfl]
      exact extract_all w

theorem encodeType1Dst_of_fields (ht : fieldType w = 0b01#2) (hu : w &&& 0x03E00000#32 = 0#32) :
    encodeType1Dst (fieldOp w) (fieldDst w) (fieldImm16 w) = w := by
  have hsrc : fieldSrc w = 0#5 := extract_eq_zero_of_mask hu rfl
  calc encodeType1Dst (fieldOp w) (fieldDst w) (fieldImm16 w)
      = fieldType w ++ fieldOp w ++ fieldSrc w ++ fieldDst w ++ fieldImm16 w := by rw [ht, hsrc]; rfl
    _ = w.extractLsb' 16 16 ++ w.extractLsb' 0 16 := by rw [upperHalf_of_fields]; rfl
    _ = w := by rw [extractLsb'_append_extractLsb'_eq_extractLsb' (start₂ := 16) rfl]; exact extract_all w

theorem encodeBranch_of_fields (ht : fieldType w = 0b01#2) (ho : fieldOp w = 0b0010#4) :
    encodeBranch (fieldCond w) (fieldSrc w) (fieldDis17 w) = w :=
  calc encodeBranch (fieldCond w) (fieldSrc w) (fieldDis17 w)
      = fieldType w ++ fieldOp w ++ fieldSrc w ++ fieldCond w ++ fieldDis17 w := by rw [ht, ho]; rfl
    _ = w := by
      unfold fieldType fieldOp fieldSrc fieldCond fieldDis17
      rw [extractLsb'_append_extractLsb'_eq_extractLsb' (start₂ := 30) rfl,
        extractLsb'_append_extractLsb'_eq_extractLsb' (start₂ := 26) rfl,
        extractLsb'_append_extractLsb'_eq_extractLsb' (start₂ := 21) rfl,
        extractLsb'_append_extractLsb'_eq_extractLsb' (start₂ := 17) rfl]
      exact extract_all w

theorem encodeType2_of_fields (ht : fieldType w = 0b10#2) :
    encodeType2 (fieldOp w) (fieldSrc w) (fieldDst w) (fieldImm16 w) = w :=
  calc encodeType2 (fieldOp w) (fieldSrc w) (fieldDst w) (fieldImm16 w)
      = fieldType w ++ fieldOp w ++ fieldSrc w ++ fieldDst w ++ fieldImm16 w := by rw [ht]; rfl
    _ = w.extractLsb' 16 16 ++ w.extractLsb' 0 16 := by rw [upperHalf_of_fields]; rfl
    _ = w := by rw [extractLsb'_append_extractLsb'_eq_extractLsb' (start₂ := 16) rfl]; exact extract_all w

theorem encodeGroupA_of_fields (ht : fieldType w = 0b10#2) (ho : fieldOp w = 0b0000#4)
    (hu : w &&& 0x0000F80F#32 = 0#32) : encodeGroupA (fieldSub w) (fieldV w) (fieldSrc w) (fieldDst w) = w :=
  calc encodeGroupA (fieldSub w) (fieldV w) (fieldSrc w) (fieldDst w)
      = fieldType w ++ fieldOp w ++ fieldSrc w ++ fieldDst w ++ w.extractLsb' 11 5 ++ fieldV w ++ fieldSub w
          ++ w.extractLsb' 0 4 := by
        rw [ht, ho, extract_eq_zero_of_mask hu (lo := 11) rfl, extract_eq_zero_of_mask hu (lo := 0) rfl]; rfl
    _ = w := by
      rw [upperHalf_of_fields]
      unfold fieldV fieldSub
      rw [extractLsb'_append_extractLsb'_eq_extractLsb' (start₂ := 16) rfl,
        extractLsb'_append_extractLsb'_eq_extractLsb' (start₂ := 11) rfl,
        extractLsb'_append_extractLsb'_eq_extractLsb' (start₂ := 9) rfl,
        extractLsb'_append_extractLsb'_eq_extractLsb' (start₂ := 4) rfl]
      exact extract_all w

theorem encodeGroupE_of_fields (ht : fieldType w = 0b10#2) (ho : fieldOp w = 0b1111#4)
    (hu : w &&& 0x000007FF#32 = 0#32) : encodeGroupE (fieldSo w) (fieldSrc w) (fieldDst w) (fieldNib w) = w :=
  calc encodeGroupE (fieldSo w) (fieldSrc w) (fieldDst w) (fieldNib w)
      = fieldType w ++ fieldOp w ++ fieldSrc w ++ fieldDst w ++ fieldSo w ++ fieldNib w ++ w.extractLsb' 0 11 := by
        rw [ht, ho, extract_eq_zero_of_mask hu rfl]; rfl
    _ = w := by
      rw [upperHalf_of_fields]
      unfold fieldSo fieldNib
      rw [extractLsb'_append_extractLsb'_eq_extractLsb' (start₂ := 16) rfl,
        extractLsb'_append_extractLsb'_eq_extractLsb' (start₂ := 14) rfl,
        extractLsb'_append_extractLsb'_eq_extractLsb' (start₂ := 11) rfl]
      exact extract_all w

theorem encodeType3_of_fields (ht : fieldType w = 0b11#2) (hu : w &&& 0x3C00000F#32 = 0#32) :
    encodeType3 (fieldSub w) (fieldV w) (fieldSrc w) (fieldDst w) (fieldSrc2 w) = w := by
  have hop : fieldOp w = 0#4 := extract_eq_zero_of_mask hu rfl
  calc encodeType3 (fieldSub w) (fieldV w) (fieldSrc w) (fieldDst w) (fieldSrc2 w)
      = fieldType w ++ fieldOp w ++ fieldSrc w ++ fieldDst w ++ fieldSrc2 w ++ fieldV w ++ fieldSub w
          ++ w.extractLsb' 0 4 := by
        rw [ht, hop, extract_eq_zero_of_mask hu rfl]; rfl
    _ = w := by
      rw [upperHalf_of_fields]
      unfold fieldSrc2 fieldV fieldSub
      rw [extractLsb'_append_extractLsb'_eq_extractLsb' (start₂ := 16) rfl,
        extractLsb'_append_extractLsb'_eq_extractLsb' (start₂ := 11) rfl,
        extractLsb'_append_extractLsb'_eq_extractLsb' (start₂ := 9) rfl,
        extractLsb'_append_extractLsb'_eq_extractLsb' (start₂ := 4) rfl]
      exact extract_all w

/-! ### Every word that decodes is the encoding of its instruction -/

theorem encode_of_decodeType0 (h : decodeType0 w = some i) (ht : fieldType w = 0b00#2)
    (hu : w &&& undefinedMask w = 0#32) : encode p i = w := by
  refine Eq.trans ?_ (encodeType0_of_fields ht)
  have hdis (ho : fieldOp0 w ≠ 0b00#2) : fieldDis28 w = 0#28 :=
    extract_eq_zero_of_mask (undefinedMask_type0 ht ho ▸ hu) rfl
  unfold decodeType0 at h
  split at h
  case h_1 ho => cases h; rw [ho]; rfl
  case h_2 ho => cases h; rw [hdis (by rw [ho]; decide), ho]; rfl
  case h_3 ho => cases h; rw [hdis (by rw [ho]; decide), ho]; rfl
  case h_4 => cases h

theorem encode_of_decodeBranch (h : decodeBranch w = some i) :
    encode p i = encodeBranch (fieldCond w) (fieldSrc w) (fieldDis17 w) := by
  unfold decodeBranch at h
  split at h
  case h_17 => cases h
  all_goals
    rename_i hcond
    cases h
    rw [hcond]
    rfl

theorem encode_of_decodeType1 (h : decodeType1 p w = some i) (ht : fieldType w = 0b01#2)
    (hu : w &&& undefinedMask w = 0#32) : encode p i = w := by
  have dst (hj : fieldOp w ≠ 0b0000#4) (hb : fieldOp w ≠ 0b0010#4)
      (he : encode p i = encodeType1Dst (fieldOp w) (fieldDst w) (fieldImm16 w)) : encode p i = w :=
    he.trans (encodeType1Dst_of_fields ht (undefinedMask_type1Dst ht hj hb ▸ hu))
  unfold decodeType1 at h
  dsimp only at h
  split_ifs at h with hjr hjal hbr hi hui hlhi
  · cases h; exact encodeJumpReg_of_fields ht hjr (undefinedMask_jumpReg ht hjr ▸ hu)
  · exact dst hjr (by rw [hjal]; decide) (by cases h; rw [hjal]; rfl)
  · exact (encode_of_decodeBranch h).trans (encodeBranch_of_fields ht hbr)
  · exact dst hjr hbr (by cases h; rw [hi]; rfl)
  · exact dst hjr hbr (by cases h; rw [hui]; rfl)
  · exact dst hjr hbr (by cases h; rw [hlhi]; rfl)

theorem encode_of_decodeGroupA (h : decodeGroupA w = some i) :
    encode p i = encodeGroupA (fieldSub w) (fieldV w) (fieldSrc w) (fieldDst w) := by
  unfold decodeGroupA at h
  split at h
  case h_64 => cases h
  all_goals
    rename_i hsub hv
    cases h
    rw [hsub, hv]
    rfl

theorem encode_of_decodeGroupE (h : decodeGroupE w = some i) :
    encode p i = encodeGroupE (fieldSo w) (fieldSrc w) (fieldDst w) (fieldNib w) := by
  unfold decodeGroupE at h
  split at h
  case h_5 => cases h
  all_goals
    rename_i hso
    cases h
    rw [hso]
    rfl

theorem encode_of_decodeType2 (h : decodeType2 w = some i) (ht : fieldType w = 0b10#2)
    (hu : w &&& undefinedMask w = 0#32) : encode p i = w := by
  unfold decodeType2 at h
  split at h
  case h_1 ho =>
    exact (encode_of_decodeGroupA h).trans (encodeGroupA_of_fields ht ho (undefinedMask_groupA ht ho ▸ hu))
  case h_16 ho =>
    exact (encode_of_decodeGroupE h).trans (encodeGroupE_of_fields ht ho (undefinedMask_groupE ht ho ▸ hu))
  case h_17 => cases h
  all_goals
    rename_i ho
    cases h
    refine Eq.trans ?_ (encodeType2_of_fields ht)
    rw [ho]
    rfl

theorem encode_of_decodeType3 (h : decodeType3 w = some i) :
    encode p i = encodeType3 (fieldSub w) (fieldV w) (fieldSrc w) (fieldDst w) (fieldSrc2 w) := by
  unfold decodeType3 at h
  split at h
  case h_59 => cases h
  all_goals
    rename_i hsub hv
    cases h
    rw [hsub, hv]
    rfl

/-- Settles O52, type by type: the defined bits are the fields the decoder read, the undefined bits are zero. -/
theorem encodeOfDecode : Obligations.EncodeOfDecode := by
  intro p w i h
  obtain ⟨hs, hu⟩ := decode_eq_ok_iff.mp h
  obtain ht | ht | ht | ht := fieldType_cases w
  · exact encode_of_decodeType0 (select_type0 (p := p) ht ▸ hs) ht hu
  · exact encode_of_decodeType1 (select_type1 ht ▸ hs) ht hu
  · exact encode_of_decodeType2 (select_type2 (p := p) ht ▸ hs) ht hu
  · exact (encode_of_decodeType3 (select_type3 (p := p) ht ▸ hs)).trans
      (encodeType3_of_fields ht (undefinedMask_type3 ht ▸ hu))

/-! ### Every instruction decodes from its own encoding -/

theorem decode_of_select (hs : select p w = some i) (hu : w &&& undefinedMask w = 0#32) : decode p w = .ok i :=
  decode_eq_ok_iff.mpr ⟨hs, hu⟩

/-- A recovered opcode above 0010 is that of no other Type 1 format (R121). -/
theorem ne_of_two_lt {op : BitVec 4} (h : 2 < op.toNat) : op ≠ 0b0000#4 ∧ op ≠ 0b0001#4 ∧ op ≠ 0b0010#4 := by
  refine ⟨?_, ?_, ?_⟩
  all_goals
    rintro rfl
    exact absurd h (by decide)

theorem opcodesDistinct_iff :
    p.opcodesDistinct = true ↔ (2 < p.opLoadi.toNat ∧ 2 < p.opLoadui.toNat ∧ 2 < p.opLhi.toNat)
      ∧ p.opLoadi ≠ p.opLoadui ∧ p.opLoadi ≠ p.opLhi ∧ p.opLoadui ≠ p.opLhi := by
  simp [Config.Params.opcodesDistinct, and_assoc]

/-! A word is decoded by its fields, so each format asks only what the decoder answers on any word with the encoded
fields. -/

theorem decode_encodeBranch {cond : BitVec 4} {src : RegNum} {dis : BitVec 17}
    (h : ∀ w, fieldCond w = cond → fieldSrc w = src → fieldDis17 w = dis → decodeBranch w = some i) :
    decode p (encodeBranch cond src dis) = .ok i := by
  obtain ⟨ht, ho, hsrc, hcond, hdis⟩ := encodeBranch_fields cond src dis
  refine decode_of_select ?_ (by rw [undefinedMask_branch ht ho, BitVec.and_zero])
  rw [select_type1 ht, ← h _ hcond hsrc hdis, decodeType1, ho]
  rfl

theorem decode_encodeType1Dst {op : BitVec 4} {dst : RegNum} {imm : BitVec 16} (hj : op ≠ 0b0000#4)
    (hb : op ≠ 0b0010#4)
    (h : ∀ w, fieldOp w = op → fieldDst w = dst → fieldImm16 w = imm → decodeType1 p w = some i) :
    decode p (encodeType1Dst op dst imm) = .ok i := by
  obtain ⟨ht, ho, hdst, himm⟩ := encodeType1Dst_fields op dst imm
  refine decode_of_select (by rw [select_type1 ht, h _ ho hdst himm]) ?_
  rw [undefinedMask_type1Dst ht (ho.trans_ne hj) (ho.trans_ne hb), encodeType1Dst_undefined]

theorem decode_encodeType2 {op : BitVec 4} {src dst : RegNum} {imm : BitVec 16} (ha : op ≠ 0b0000#4)
    (he : op ≠ 0b1111#4) (h : ∀ w, fieldOp w = op → fieldSrc w = src → fieldDst w = dst → fieldImm16 w = imm →
      decodeType2 w = some i) : decode p (encodeType2 op src dst imm) = .ok i := by
  obtain ⟨ht, ho, hsrc, hdst, himm⟩ := encodeType2_fields op src dst imm
  refine decode_of_select (by rw [select_type2 ht, h _ ho hsrc hdst himm]) ?_
  rw [undefinedMask_type2 ht (ho.trans_ne ha) (ho.trans_ne he), BitVec.and_zero]

theorem decode_encodeGroupA {sub : BitVec 5} {v : BitVec 2} {src dst : RegNum}
    (h : ∀ w, fieldSub w = sub → fieldV w = v → fieldSrc w = src → fieldDst w = dst → decodeGroupA w = some i) :
    decode p (encodeGroupA sub v src dst) = .ok i := by
  obtain ⟨ht, ho, hsub, hv, hsrc, hdst⟩ := encodeGroupA_fields sub v src dst
  refine decode_of_select ?_ (by rw [undefinedMask_groupA ht ho, encodeGroupA_undefined])
  rw [select_type2 ht, ← h _ hsub hv hsrc hdst, decodeType2, ho]
  rfl

theorem decode_encodeGroupE {so : BitVec 2} {src dst : RegNum} {nib : BitVec 3}
    (h : ∀ w, fieldSo w = so → fieldSrc w = src → fieldDst w = dst → fieldNib w = nib → decodeGroupE w = some i) :
    decode p (encodeGroupE so src dst nib) = .ok i := by
  obtain ⟨ht, ho, hso, hsrc, hdst, hnib⟩ := encodeGroupE_fields so src dst nib
  refine decode_of_select ?_ (by rw [undefinedMask_groupE ht ho, encodeGroupE_undefined])
  rw [select_type2 ht, ← h _ hso hsrc hdst hnib, decodeType2, ho]
  rfl

theorem decode_encodeType3 {sub : BitVec 5} {v : BitVec 2} {s1 dst s2 : RegNum}
    (h : ∀ w, fieldSub w = sub → fieldV w = v → fieldSrc w = s1 → fieldDst w = dst → fieldSrc2 w = s2 →
      decodeType3 w = some i) : decode p (encodeType3 sub v s1 dst s2) = .ok i := by
  obtain ⟨ht, hsub, hv, hs1, hdst, hs2⟩ := encodeType3_fields sub v s1 dst s2
  exact decode_of_select (by rw [select_type3 ht, h _ hsub hv hs1 hdst hs2])
    (by rw [undefinedMask_type3 ht, encodeType3_undefined])

theorem decode_encode (hp : p.opcodesDistinct = true) (i : Instr) : decode p (encode p i) = .ok i := by
  obtain ⟨⟨hi, hui, hlhi⟩, hi_ui, hi_lhi, hui_lhi⟩ := opcodesDistinct_iff.mp hp
  obtain ⟨hi0, hi1, hi2⟩ := ne_of_two_lt hi
  obtain ⟨hui0, hui1, hui2⟩ := ne_of_two_lt hui
  obtain ⟨hlhi0, hlhi1, hlhi2⟩ := ne_of_two_lt hlhi
  cases i with
  | j dis =>
    obtain ⟨ht, ho, hdis⟩ := encodeType0_fields 0b00#2 dis
    refine decode_of_select (w := encodeType0 0b00#2 dis) ?_ (by rw [undefinedMask_jump ht ho, BitVec.and_zero])
    rw [select_type0 ht, decodeType0, ho, hdis]
    rfl
  | trap => exact decode_of_select (w := encodeType0 0b01#2 0#28) rfl (by decide)
  | rfe => exact decode_of_select (w := encodeType0 0b10#2 0#28) rfl (by decide)
  | jr src =>
    obtain ⟨ht, ho, hsrc⟩ := encodeJumpReg_fields src
    refine decode_of_select (w := encodeJumpReg src) ?_
      (by rw [undefinedMask_jumpReg ht ho, encodeJumpReg_undefined])
    rw [select_type1 ht, decodeType1, ho, hsrc]
    rfl
  | jal =>
    refine decode_encodeType1Dst (by decide) (by decide) fun w ho hdst himm => ?_
    rw [decodeType1, ho, hdst, himm]
    rfl
  | loadi =>
    refine decode_encodeType1Dst hi0 hi2 fun w ho hdst himm => ?_
    simp only [decodeType1, ho, hdst, himm, hi0, hi1, hi2, if_true, if_false]
  | loadui =>
    refine decode_encodeType1Dst hui0 hui2 fun w ho hdst himm => ?_
    simp only [decodeType1, ho, hdst, himm, hui0, hui1, hui2, hi_ui.symm, if_true, if_false]
  | lhi =>
    refine decode_encodeType1Dst hlhi0 hlhi2 fun w ho hdst himm => ?_
    simp only [decodeType1, ho, hdst, himm, hlhi0, hlhi1, hlhi2, hi_lhi.symm, hui_lhi.symm, if_true, if_false]
  | bc | bv | bz | bn | bnc | bnv | bnz | bnn | bfpan | bfpinf | bfpz | bfpn | bfpnan | bfpninf | bfpnz | bfpnn =>
    refine decode_encodeBranch fun w hcond hsrc hdis => ?_
    unfold decodeBranch
    rw [hcond, hsrc, hdis]
    rfl
  | movW | movL | movF | movD | movf2w | movw2f | movd2l | movl2d | movw2s | movs2w | cnvf2d | cnvd2f | cnvf2w
  | cnvw2f | cnvd2w | cnvw2d | cnvf2l | cnvl2f | cnvd2l | cnvl2d | invW | invL | jral | cosW | cosL | cosF | cosD
  | coshW | coshL | coshF | coshD | sinW | sinL | sinF | sinD | sinhW | sinhL | sinhF | sinhD | sqrt1msqW
  | sqrt1msqL | sqrt1msqF | sqrt1msqD | sqrt1psqW | sqrt1psqL | sqrt1psqF | sqrt1psqD | atanW | atanL | atanF
  | atanD | atanhW | atanhL | atanhF | atanhD | lnW | lnL | lnF | lnD | sqrtW | sqrtL | sqrtF | sqrtD =>
    refine decode_encodeGroupA fun w hsub hv hsrc hdst => ?_
    unfold decodeGroupA
    rw [hsub, hv, hsrc, hdst]
    rfl
  | addiW | adduiW | subiW | subuiW | loadB | loaduB | loadH | loaduH | loadW | loadF | storeB | storeH | storeW
  | storeF =>
    refine decode_encodeType2 (by decide) (by decide) fun w ho hsrc hdst himm => ?_
    unfold decodeType2
    rw [ho, hsrc, hdst, himm]
    rfl
  | movn2fgG | movfg2nG | movn2fgF | movfg2nF =>
    refine decode_encodeGroupE fun w hso hsrc hdst hnib => ?_
    unfold decodeGroupE
    rw [hso, hsrc, hdst, hnib]
    rfl
  | addW | addL | addF | addD | subW | subL | subF | subD | multW | multL | multF | multD | divW | divL | divF
  | divD | remW | remL | andW | andL | orW | orL | xorW | xorL | rlW | rlL | rrW | rrL | slW | slL | sraW | sraL
  | srlW | srlL | pol2recxW | pol2recxL | pol2recxF | pol2recxD | pol2recyW | pol2recyL | pol2recyF | pol2recyD
  | hyp2recxW | hyp2recxL | hyp2recxF | hyp2recxD | hyp2recyW | hyp2recyL | hyp2recyF | hyp2recyD | normW | normL
  | normF | normD | atan2W | atan2L | atan2F | atan2D =>
    refine decode_encodeType3 fun w hsub hv hs1 hdst hs2 => ?_
    unfold decodeType3
    rw [hsub, hv, hs1, hdst, hs2]
    rfl

/-- Settles O51, format by format: the decoder reads back the fields that the encoder wrote. -/
theorem decodeOfEncode : Obligations.DecodeOfEncode := fun _ i hp => decode_encode hp i

/-! ### Words as bytes -/

theorem decodeBytes_bytesOfWord (p : Config.Params) (w : Word) :
    decodeBytes p (bytesOfWord w) = some (decode p w, []) := by
  have hw : wordOfBytes (w.extractLsb' 24 8) (w.extractLsb' 16 8) (w.extractLsb' 8 8) (w.extractLsb' 0 8) = w := by
    unfold wordOfBytes
    rw [extractLsb'_append_extractLsb'_eq_extractLsb' (start₂ := 24) rfl,
      extractLsb'_append_extractLsb'_eq_extractLsb' (start₂ := 16) rfl,
      extractLsb'_append_extractLsb'_eq_extractLsb' (start₂ := 8) rfl]
    exact extract_all w
  simp only [decodeBytes, bytesOfWord, hw]

/-- The number of an instruction's word, read as the opcode table writes it, gives the instruction back. -/
theorem decodeTableWord_of_encode {n : Nat} (h : (encode Config.Params.standard i).toNat = n) :
    decodeTableWord 32 n = some i := by
  have hn : n % 2 ^ 32 = n := Nat.mod_eq_of_lt (h ▸ BitVec.isLt _)
  unfold decodeTableWord
  rw [hn, ← h, BitVec.ofNat_toNat, BitVec.setWidth_eq, decodeBytes_bytesOfWord, decode_encode (by decide)]

/-- Settles O50: each word is the encoding of its instruction. -/
theorem decodeExamples : Obligations.DecodeExamples := by
  unfold Obligations.DecodeExamples
  and_intros
  all_goals exact decodeTableWord_of_encode rfl

end Sys2Proof

/-! SUPPORT. The step on a fetched word, whatever the word means (spec/60_exceptions.md R501; spec/30_encoding.md R119,
R127). -/

namespace Sys2Proof.Machine

variable {run : Instr → State → Result} {s : State} {w : Word} {i : Instr}

theorem cycle_unpopulated (hw : s.begin.codeWord s.begin.pc = none) : cycle run s = .fault .unpopulatedCode := by
  simp only [cycle, hw]

theorem cycle_fetched (hw : s.begin.codeWord s.begin.pc = some w) :
    cycle run s = runWord run w (s.begin.fetched w) := by
  simp only [cycle, hw]

theorem runWord_unassigned (hs : select s.params w = none) : runWord run w s = .next (s.raise 2) := by
  simp only [runWord, decode_unassigned hs]

/-- Non-zero undefined bits are answered by the policy (R119). -/
theorem runWord_undefinedBits (hs : select s.params w = some i) (hu : w &&& undefinedMask w ≠ 0#32) :
    (s.params.undefBits = .refuse → runWord run w s = .refused .undefinedBits)
      ∧ (s.params.undefBits = .ignore → runWord run w s = run i s)
      ∧ (s.params.undefBits = .raiseE2 → runWord run w s = .next (s.raise 2)) := by
  have hd := decode_undefinedBits hs hu
  refine ⟨fun hp => ?_, fun hp => ?_, fun hp => ?_⟩ <;> simp only [runWord, hd, hp]

/-- Settles O49: the fetch, then the decoder's answer on the word fetched. -/
theorem stepOnOtherWords : Obligations.StepOnOtherWords := by
  rintro s b rfl
  refine ⟨cycle_unpopulated, fun w hw => ?_⟩
  have hstep : step s = runWord exec w (s.begin.fetched w) := cycle_fetched hw
  have raised : Raised (s.begin.fetched w) ((s.begin.fetched w).raise 2) 2 := raised_raise _ (by decide)
  refine ⟨fun hs => ⟨_, hstep.trans (runWord_unassigned hs), raised⟩, fun i hs hu => ?_⟩
  obtain ⟨refused, ignored, raises⟩ := runWord_undefinedBits (run := exec) (s := s.begin.fetched w) hs hu
  exact ⟨fun hp => hstep.trans (refused hp), fun hp => hstep.trans (ignored hp),
    fun hp => ⟨_, hstep.trans (raises hp), raised⟩⟩

end Sys2Proof.Machine

/-! SUPPORT. The register moves: what an instruction that writes one register or a pair leaves unchanged, and the
nibbles of a word bit by bit (spec/40_register_transfer.md). -/

namespace Sys2Proof.Machine

variable {s t : State} {i : Instr} {d a : RegNum}

/-! ### Frames of register writes -/

theorem Frame.refl (s : State) (gs fs : List RegNum) (as : List Word) : Frame s s gs fs as :=
  ⟨fun _ _ => rfl, fun _ _ => rfl, fun _ _ => rfl, rfl, .refl s⟩

/-- Writing a GPR that the frame names keeps the frame. -/
theorem Frame.setGpr {gs fs : List RegNum} {as : List Word} (h : Frame s t gs fs as) (hd : d ∈ gs) (g : Gpr) :
    Frame s (t.setGpr d g) gs fs as where
  gprs r hr := by
    have hne : r ≠ d := fun e => hr (e ▸ hd)
    rw [State.gpr_setGpr, if_neg hne, h.gprs r hr]
  fprs := h.fprs
  data := h.data
  ir := h.ir
  system := { h.system with }

/-- Writing an FPR that the frame names keeps the frame. -/
theorem Frame.setFpr {gs fs : List RegNum} {as : List Word} (h : Frame s t gs fs as) (hd : d ∈ fs) (g : Fpr) :
    Frame s (t.setFpr d g) gs fs as where
  gprs := h.gprs
  fprs r hr := by
    have hne : r ≠ d := fun e => hr (e ▸ hd)
    rw [State.fpr_setFpr, if_neg hne, h.fprs r hr]
  data := h.data
  ir := h.ir
  system := { h.system with }

/-- Going on to the next word after writes to the registers that the frame names. -/
theorem Frame.wroteRegs_advance {gs fs : List RegNum} (h : Frame s t gs fs []) (hcr : t.cr = s.cr)
    (hpc : t.pc = s.pc) : WroteRegs s t.advance gs fs where
  frame := { h with system := { h.system with } }
  cr := hcr
  pc := congrArg (· + 1#30) hpc

theorem wroteRegs_setFpr (s : State) (d : RegNum) (g : Fpr) : WroteRegs s (s.setFpr d g).advance [] [d] :=
  ((Frame.refl s [] [d] []).setFpr (by simp) g).wroteRegs_advance rfl rfl

theorem wroteRegs_setGpr_pair (s : State) (d : RegNum) (g g' : Gpr) :
    WroteRegs s ((s.setGpr d g).setGpr (d + 1#5) g').advance [d, d + 1#5] [] :=
  (((Frame.refl s [d, d + 1#5] [] []).setGpr (by simp) g).setGpr (by simp) g').wroteRegs_advance rfl rfl

theorem wroteRegs_setFpr_pair (s : State) (d : RegNum) (g g' : Fpr) :
    WroteRegs s ((s.setFpr d g).setFpr (d + 1#5) g').advance [] [d, d + 1#5] :=
  (((Frame.refl s [] [d, d + 1#5] []).setFpr (by simp) g).setFpr (by simp) g').wroteRegs_advance rfl rfl

/-! ### Instructions that write one register, a pair, or raise -/

theorem completes_setGpr {g : Gpr} (h : exec i s = done (s.setGpr d g)) :
    ∃ t, exec i s = .next t ∧ WroteRegs s t [d] [] ∧ t.gpr d = g :=
  ⟨_, h, wroteRegs_setGpr s d g, by simp⟩

theorem completes_setFpr {g : Fpr} (h : exec i s = done (s.setFpr d g)) :
    ∃ t, exec i s = .next t ∧ WroteRegs s t [] [d] ∧ t.fpr d = g :=
  ⟨_, h, wroteRegs_setFpr s d g, by simp⟩

theorem completes_setGpr_pair {g g' : Gpr} (h : exec i s = done ((s.setGpr d g).setGpr (d + 1#5) g')) :
    ∃ t, exec i s = .next t ∧ WroteRegs s t [d, d + 1#5] [] ∧ t.gpr d = g ∧ t.gpr (d + 1#5) = g' :=
  ⟨_, h, wroteRegs_setGpr_pair s d g g', by simp [pair_ne d], by simp⟩

theorem completes_setFpr_pair {g g' : Fpr} (h : exec i s = done ((s.setFpr d g).setFpr (d + 1#5) g')) :
    ∃ t, exec i s = .next t ∧ WroteRegs s t [] [d, d + 1#5] ∧ t.fpr d = g ∧ t.fpr (d + 1#5) = g' :=
  ⟨_, h, wroteRegs_setFpr_pair s d g g', by simp [pair_ne d], by simp⟩

theorem raises_of_exec {k : Nat} (hk : k < 32) (h : exec i s = .next (s.raise k)) : Raises i s k :=
  ⟨_, h, raised_raise s hk⟩

/-! ### Single moves -/

/-- Settles O1: each move is one register write. -/
theorem movesCopyDataAndFlags : Obligations.MovesCopyDataAndFlags := fun _ _ _ =>
  ⟨completes_setGpr rfl, completes_setFpr rfl, completes_setGpr rfl, completes_setFpr rfl⟩

/-! ### Pair moves -/

section Even

variable (hd : odd d = false) (ha : odd a = false)
include hd ha

theorem exec_movL_even :
    exec (.movL d a) s = done ((s.setGpr d (s.gpr a)).setGpr (d + 1#5) (s.gpr (a + 1#5))) := by
  change execMovL d a s = _
  simp [execMovL, hd, ha]

theorem exec_movD_even :
    exec (.movD d a) s = done ((s.setFpr d (s.fpr a)).setFpr (d + 1#5) (s.fpr (a + 1#5))) := by
  change execMovD d a s = _
  simp [execMovD, hd, ha]

theorem exec_movd2l_even :
    exec (.movd2l d a) s = done ((s.setGpr d (s.fpr a).toGpr).setGpr (d + 1#5) (s.fpr (a + 1#5)).toGpr) := by
  change execMovd2l d a s = _
  simp [execMovd2l, hd, ha]

theorem exec_movl2d_even :
    exec (.movl2d d a) s = done ((s.setFpr d (s.gpr a).toFpr).setFpr (d + 1#5) (s.gpr (a + 1#5)).toFpr) := by
  change execMovl2d d a s = _
  simp [execMovl2d, hd, ha]

end Even

/-- Settles O2: on even numbers each pair move is two register writes. -/
theorem pairMovesCopyBothHalves : Obligations.PairMovesCopyBothHalves := fun _ _ _ hd ha =>
  ⟨completes_setGpr_pair (exec_movL_even hd ha), completes_setFpr_pair (exec_movD_even hd ha),
    completes_setGpr_pair (exec_movd2l_even hd ha), completes_setFpr_pair (exec_movl2d_even hd ha)⟩

theorem exec_movL_odd (h : odd d = true ∨ odd a = true) : exec (.movL d a) s = .next (s.raise 4) :=
  if_pos ((Bool.or_eq_true _ _).mpr h)

theorem exec_movD_odd (h : odd d = true ∨ odd a = true) : exec (.movD d a) s = .next (s.raise 5) :=
  if_pos ((Bool.or_eq_true _ _).mpr h)

theorem exec_movd2l_odd_dst (hd : odd d = true) : exec (.movd2l d a) s = .next (s.raise 4) := if_pos hd

theorem exec_movl2d_odd_dst (hd : odd d = true) : exec (.movl2d d a) s = .next (s.raise 5) := if_pos hd

theorem exec_movd2l_odd_src (hd : odd d = false) (ha : odd a = true) :
    exec (.movd2l d a) s = .next (s.raise 5) :=
  (if_neg (Bool.eq_false_iff.mp hd)).trans (if_pos ha)

theorem exec_movl2d_odd_src (hd : odd d = false) (ha : odd a = true) :
    exec (.movl2d d a) s = .next (s.raise 4) :=
  (if_neg (Bool.eq_false_iff.mp hd)).trans (if_pos ha)

/-- Settles O3: the parity checks in their order, the destination's before the source's. -/
theorem pairMovesOddRaise : Obligations.PairMovesOddRaise := by
  intro s d a
  refine ⟨fun h => ⟨?movL, ?movD⟩, fun hd => ⟨?movd2lDst, ?movl2dDst⟩, fun hd ha => ⟨?movd2lSrc, ?movl2dSrc⟩⟩
  case movL => exact raises_of_exec (by decide) (exec_movL_odd h)
  case movD => exact raises_of_exec (by decide) (exec_movD_odd h)
  case movd2lDst => exact raises_of_exec (by decide) (exec_movd2l_odd_dst hd)
  case movl2dDst => exact raises_of_exec (by decide) (exec_movl2d_odd_dst hd)
  case movd2lSrc => exact raises_of_exec (by decide) (exec_movd2l_odd_src hd ha)
  case movl2dSrc => exact raises_of_exec (by decide) (exec_movl2d_odd_src hd ha)

/-! ### Nibbles, bit by bit (R210) -/

theorem nibbleOf_getLsbD (w : Word) (nib : BitVec 3) {j : Nat} (hj : j < 4) :
    (nibbleOf w nib).getLsbD j = w.getLsbD (4 * nib.toNat + j) := by
  simp [nibbleOf, hj]

/-- The bits of a nibble shifted to its place in a word. -/
theorem setWidth_shiftLeft_getLsbD (x : BitVec 4) (nib : BitVec 3) (k : Nat) :
    (x.setWidth 32 <<< (4 * nib.toNat)).getLsbD k = if k / 4 = nib.toNat then x.getLsbD (k % 4) else false := by
  have hnib := nib.isLt
  rw [BitVec.getLsbD_shiftLeft, BitVec.getLsbD_setWidth]
  split
  · have hsub : k - 4 * nib.toNat = k % 4 := by omega
    have hlow : ¬k < 4 * nib.toNat := by omega
    have hk : k < 32 := by omega
    have hpos : k % 4 < 32 := by omega
    simp [hsub, hlow, hk, hpos]
  · by_cases hlow : k < 4 * nib.toNat
    · simp [hlow]
    · simp [BitVec.getLsbD_of_ge x (k - 4 * nib.toNat) (by omega)]

/-- Bit `k` of a word with a nibble replaced: the new nibble's in its four places, the word's elsewhere. -/
theorem withNibble_getLsbD (w : Word) (nib : BitVec 3) (x : BitVec 4) (k : Nat) :
    (withNibble w nib x).getLsbD k = if k / 4 = nib.toNat then x.getLsbD (k % 4) else w.getLsbD k := by
  have mask : 0xF#32 = (BitVec.allOnes 4).setWidth 32 := rfl
  have hmod : k % 4 < 4 := Nat.mod_lt k (by decide)
  rw [withNibble, mask, BitVec.getLsbD_or, BitVec.getLsbD_and, BitVec.getLsbD_not, setWidth_shiftLeft_getLsbD,
    setWidth_shiftLeft_getLsbD, BitVec.getLsbD_allOnes]
  split
  · simp [hmod]
  · by_cases hk : k < 32
    · simp [hk]
    · simp [BitVec.getLsbD_of_ge w k (by omega)]

theorem withNibble_getLsbD_inside (w : Word) (nib : BitVec 3) (x : BitVec 4) {j : Nat} (hj : j < 4) :
    (withNibble w nib x).getLsbD (4 * nib.toNat + j) = x.getLsbD j := by
  rw [withNibble_getLsbD, if_pos (by omega), show (4 * nib.toNat + j) % 4 = j by omega]

theorem withNibble_getLsbD_outside (w : Word) {nib : BitVec 3} (x : BitVec 4) {k : Nat} (hk : k / 4 ≠ nib.toNat) :
    (withNibble w nib x).getLsbD k = w.getLsbD k := by
  rw [withNibble_getLsbD, if_neg hk]

theorem nibbleOfFlags_getLsbD (f3 f2 f1 f0 : Bool) :
    (nibbleOfFlags f3 f2 f1 f0).getLsbD 3 = f3 ∧ (nibbleOfFlags f3 f2 f1 f0).getLsbD 2 = f2
      ∧ (nibbleOfFlags f3 f2 f1 f0).getLsbD 1 = f1 ∧ (nibbleOfFlags f3 f2 f1 f0).getLsbD 0 = f0 := by
  revert f3 f2 f1 f0
  decide

/-- An instruction that writes four flags into a nibble of a GPR (R212, R214). -/
theorem completes_withNibble {nib : BitVec 3} {f3 f2 f1 f0 : Bool}
    (h : exec i s = done (s.setReg d (withNibble (s.reg d) nib (nibbleOfFlags f3 f2 f1 f0)))) :
    ∃ t, exec i s = .next t ∧ WroteRegs s t [d] [] ∧ t.gpr d = { s.gpr d with val := t.reg d }
      ∧ (t.reg d).getLsbD (4 * nib.toNat + 3) = f3 ∧ (t.reg d).getLsbD (4 * nib.toNat + 2) = f2
      ∧ (t.reg d).getLsbD (4 * nib.toNat + 1) = f1 ∧ (t.reg d).getLsbD (4 * nib.toNat) = f0
      ∧ ∀ k, k / 4 ≠ nib.toNat → (t.reg d).getLsbD k = (s.reg d).getLsbD k := by
  obtain ⟨t, ht, hwrote, hgpr⟩ := completes_setGpr h
  have hreg : t.reg d = withNibble (s.reg d) nib (nibbleOfFlags f3 f2 f1 f0) := congrArg Gpr.val hgpr
  obtain ⟨h3, h2, h1, h0⟩ := nibbleOfFlags_getLsbD f3 f2 f1 f0
  refine ⟨t, ht, hwrote, hreg ▸ hgpr, ?_⟩
  rw [hreg]
  exact ⟨(withNibble_getLsbD_inside _ _ _ (by decide)).trans h3,
    (withNibble_getLsbD_inside _ _ _ (by decide)).trans h2,
    (withNibble_getLsbD_inside _ _ _ (by decide)).trans h1,
    (withNibble_getLsbD_inside _ _ _ (j := 0) (by decide)).trans h0,
    fun _ hk => withNibble_getLsbD_outside _ _ hk⟩

/-- Settles O7: the nibble read or written is that of the bits `4 * nib + j`. -/
theorem flagNibbleMoves : Obligations.FlagNibbleMoves := by
  intro s d a nib
  have bit (j : Nat) (hj : j < 4) := nibbleOf_getLsbD (s.reg a) nib hj
  refine ⟨?movn2fgG, ?movn2fgF, completes_withNibble rfl, completes_withNibble rfl⟩
  all_goals rw [← bit 3 (by decide), ← bit 2 (by decide), ← bit 1 (by decide)]
  case movn2fgG => exact completes_setGpr rfl
  case movn2fgF => exact completes_setFpr rfl

end Sys2Proof.Machine

/-! SUPPORT. The loads and stores that are made: the address is aligned and populated, so a load is one register write
and a store is the byte writes of R85 (spec/41_memory_transfer.md). -/

namespace Sys2Proof.Machine

variable {s t : State} {i : Instr} {d : RegNum}

/-! ### Frames of byte writes -/

/-- Writing a data byte that the frame names keeps the frame. -/
theorem Frame.setByte {gs fs : List RegNum} {as : List Word} {a : Word} (h : Frame s t gs fs as)
    (hw : t.dm.wf = true) (ha : a ∈ as) (v : Byte) : Frame s (t.setByte a v) gs fs as where
  gprs := h.gprs
  fprs := h.fprs
  data b hb := by
    have hne : b ≠ a := fun e => hb (e ▸ ha)
    rw [State.byteAt_setByte _ _ _ _ hw, if_neg hne, h.data b hb]
  ir := h.ir
  system := { h.system with }

theorem Frame.advance {gs fs : List RegNum} {as : List Word} (h : Frame s t gs fs as) : Frame s t.advance gs fs as :=
  { h with system := { h.system with } }

theorem frame_memWrite1 (hw : s.dm.wf = true) (a : Word) (v : Byte) : Frame s (s.memWrite1 a v) [] [] [a] :=
  (Frame.refl s [] [] [a]).setByte hw (by simp) v

theorem frame_memWrite2 (hw : s.dm.wf = true) (a : Word) (v : BitVec 16) :
    Frame s (s.memWrite2 a v) [] [] [a, a + 1#32] := by
  have hw₁ := State.dm_wf_setByte s a (v.extractLsb' 8 8) hw
  exact ((Frame.refl s [] [] _).setByte hw (by simp) _).setByte hw₁ (by simp) _

theorem frame_memWrite4 (hw : s.dm.wf = true) (a : Word) (v : Word) :
    Frame s (s.memWrite4 a v) [] [] [a, a + 1#32, a + 2#32, a + 3#32] := by
  have hw₁ := State.dm_wf_setByte s a (v.extractLsb' 24 8) hw
  have hw₂ := State.dm_wf_setByte _ (a + 1#32) (v.extractLsb' 16 8) hw₁
  have hw₃ := State.dm_wf_setByte _ (a + 2#32) (v.extractLsb' 8 8) hw₂
  exact ((((Frame.refl s [] [] _).setByte hw (by simp) _).setByte hw₁ (by simp) _).setByte hw₂ (by simp) _).setByte
    hw₃ (by simp) _

/-! ### Halves and words, byte by byte -/

/-- The upper byte of a half written at `a` stands at `a`, the lower one at `a + 1` (R85). -/
theorem State.byteAt_memWrite2 (hw : s.dm.wf = true) (a : Word) (v : BitVec 16) :
    (s.memWrite2 a v).byteAt a = v.extractLsb' 8 8 ∧ (s.memWrite2 a v).byteAt (a + 1#32) = v.extractLsb' 0 8 := by
  have hw₁ := State.dm_wf_setByte s a (v.extractLsb' 8 8) hw
  simp [State.memWrite2, State.byteAt_setByte _ _ _ _ hw₁, State.byteAt_setByte _ _ _ _ hw]

/-- Appended bits are the digits above: the left operand counts 2^w. -/
theorem toNat_append_eq_mul_add {n w : Nat} (x : BitVec n) (y : BitVec w) :
    (x ++ y).toNat = x.toNat * 2 ^ w + y.toNat := by
  rw [BitVec.toNat_append, ← Nat.shiftLeft_add_eq_or_of_lt y.isLt, Nat.shiftLeft_eq]

/-- A half as a number, the byte at the lowest address the most significant (R84). -/
theorem State.memRead2_toNat (s : State) (a : Word) :
    (s.memRead2 a).toNat = (s.byteAt a).toNat * 2 ^ 8 + (s.byteAt (a + 1#32)).toNat :=
  toNat_append_eq_mul_add _ _

/-- A word as a number (R84). -/
theorem State.memRead4_toNat (s : State) (a : Word) :
    (s.memRead4 a).toNat = (s.byteAt a).toNat * 2 ^ 24 + (s.byteAt (a + 1#32)).toNat * 2 ^ 16
      + (s.byteAt (a + 2#32)).toNat * 2 ^ 8 + (s.byteAt (a + 3#32)).toNat := by
  simp only [State.memRead4, toNat_append_eq_mul_add]
  omega

/-! ### Instructions that write the data of one register -/

/-- An instruction that writes the data of a GPR completes and keeps its flags (R24); `f` is the reading under which
the value is known. -/
theorem completes_setReg {α : Type} (f : Word → α) {v : Word} {x : α} (h : exec i s = done (s.setReg d v))
    (hv : f v = x) :
    ∃ t, exec i s = .next t ∧ WroteRegs s t [d] [] ∧ t.gpr d = { s.gpr d with val := t.reg d } ∧ f (t.reg d) = x := by
  obtain ⟨t, ht, hwrote, hgpr⟩ := completes_setGpr h
  have hreg : t.reg d = v := congrArg Gpr.val hgpr
  exact ⟨t, ht, hwrote, hreg ▸ hgpr, hreg ▸ hv⟩

/-- An instruction that writes the data of an FPR completes and keeps its flags (R28). -/
theorem completes_setFreg {α : Type} (f : Word → α) {v : Word} {x : α} (h : exec i s = done (s.setFreg d v))
    (hv : f v = x) :
    ∃ t, exec i s = .next t ∧ WroteRegs s t [] [d] ∧ t.fpr d = { s.fpr d with val := t.freg d }
      ∧ f (t.freg d) = x := by
  obtain ⟨t, ht, hwrote, hfpr⟩ := completes_setFpr h
  have hreg : t.freg d = v := congrArg Fpr.val hfpr
  exact ⟨t, ht, hwrote, hreg ▸ hfpr, hreg ▸ hv⟩

/-- lhi: the immediate above the low half of the register (R232). -/
theorem lhi_toNat (imm : BitVec 16) (x : Word) :
    (imm ++ x.extractLsb' 0 16).toNat = imm.toNat * 2 ^ 16 + x.toNat % 2 ^ 16 := by
  rw [toNat_append_eq_mul_add, BitVec.extractLsb'_toNat, Nat.shiftRight_zero]

/-- Settles O8: each is one write of a register's data. -/
theorem immediateLoads : Obligations.ImmediateLoads := fun _ _ imm =>
  ⟨completes_setReg BitVec.toInt rfl (BitVec.toInt_signExtend_of_le (by decide)),
    completes_setReg BitVec.toNat rfl (BitVec.toNat_setWidth_of_le (by decide)),
    completes_setReg BitVec.toNat rfl (lhi_toNat imm _)⟩

/-! ### Loads -/

/-- Settles O9: an access that is made is one write of a register's data, with the bytes read in the order of R84. -/
theorem loadsReadMemory : Obligations.LoadsReadMemory := by
  rintro s d b dis _ rfl
  refine ⟨s.ea_eq_ofInt b dis, fun hp => ?byte, fun ha hp => ?half, fun ha hp => ?word⟩
  case byte =>
    have made (k : Result) := withAccess_made k (Nat.mod_one _) hp
    exact ⟨completes_setReg BitVec.toInt (made _) (BitVec.toInt_signExtend_of_le (by decide)),
      completes_setReg BitVec.toNat (made _) (BitVec.toNat_setWidth_of_le (by decide))⟩
  case half =>
    have made (k : Result) := withAccess_made k ha hp
    exact ⟨completes_setReg BitVec.toInt (made _) (BitVec.toInt_signExtend_of_le (by decide)),
      completes_setReg BitVec.toNat (made _)
        ((BitVec.toNat_setWidth_of_le (by decide)).trans (s.memRead2_toNat (s.ea b dis)))⟩
  case word =>
    have made (k : Result) := withAccess_made k ha hp
    exact ⟨completes_setReg BitVec.toNat (made _) (s.memRead4_toNat (s.ea b dis)),
      completes_setFreg BitVec.toNat (made _) (s.memRead4_toNat (s.ea b dis))⟩

/-! ### Stores -/

/-- An instruction that writes a word to memory: its four bytes, the most significant lowest, and nothing else (R85). -/
theorem completes_memWrite4 {a v : Word} (h : exec i s = done (s.memWrite4 a v)) (hw : s.dm.wf = true) :
    ∃ t, exec i s = .next t ∧ Frame s t [] [] [a, a + 1#32, a + 2#32, a + 3#32] ∧ t.cr = s.cr ∧ t.pc = s.pc + 1#30
      ∧ t.byteAt a = v.extractLsb' 24 8 ∧ t.byteAt (a + 1#32) = v.extractLsb' 16 8
      ∧ t.byteAt (a + 2#32) = v.extractLsb' 8 8 ∧ t.byteAt (a + 3#32) = v.extractLsb' 0 8 := by
  have byte {k : Nat} (hk : k < 4) := State.byteAt_memWrite4 a v hw hk
  refine ⟨_, h, (frame_memWrite4 hw a v).advance, by simp, by simp, ?_⟩
  simp only [State.byteAt_advance]
  exact ⟨by simpa using byte (k := 0) (by decide), byte (k := 1) (by decide), byte (k := 2) (by decide),
    byte (k := 3) (by decide)⟩

/-- An instruction that writes the low half of `x` to memory (R85). -/
theorem completes_memWrite2 {a x : Word} (h : exec i s = done (s.memWrite2 a (x.extractLsb' 0 16)))
    (hw : s.dm.wf = true) :
    ∃ t, exec i s = .next t ∧ Frame s t [] [] [a, a + 1#32] ∧ t.cr = s.cr ∧ t.pc = s.pc + 1#30
      ∧ t.byteAt a = x.extractLsb' 8 8 ∧ t.byteAt (a + 1#32) = x.extractLsb' 0 8 := by
  obtain ⟨upper, lower⟩ := State.byteAt_memWrite2 hw a (x.extractLsb' 0 16)
  rw [BitVec.extractLsb'_extractLsb'_of_le (by decide)] at upper lower
  exact ⟨_, h, (frame_memWrite2 hw a _).advance, by simp, by simp, upper, lower⟩

/-- An instruction that writes one byte to memory (R85). -/
theorem completes_memWrite1 {a : Word} {v : Byte} (h : exec i s = done (s.memWrite1 a v)) (hw : s.dm.wf = true) :
    ∃ t, exec i s = .next t ∧ Frame s t [] [] [a] ∧ t.cr = s.cr ∧ t.pc = s.pc + 1#30 ∧ t.byteAt a = v :=
  ⟨_, h, (frame_memWrite1 hw a v).advance, by simp, by simp, (State.byteAt_setByte s a a v hw).trans (if_pos rfl)⟩

/-- Settles O10: an access that is made is the byte writes of R85. -/
theorem storesWriteMemory : Obligations.StoresWriteMemory := by
  rintro s x b dis _ rfl hw
  refine ⟨s.ea_eq_ofInt b dis, fun hp => ?byte, fun ha hp => ?half, fun ha hp => ?word⟩
  case byte => exact completes_memWrite1 (withAccess_made _ (Nat.mod_one _) hp) hw
  case half => exact completes_memWrite2 (withAccess_made _ ha hp) hw
  case word =>
    exact ⟨completes_memWrite4 (withAccess_made _ ha hp) hw, completes_memWrite4 (withAccess_made _ ha hp) hw⟩

end Sys2Proof.Machine

/-! SUPPORT. The integer forms: when a form completes and when it raises, and the outputs of the integer unit as
arithmetic on the operands' values (spec/42_arithmetic.md R260 to R294, spec/45_logic.md R399, R400). -/

namespace Sys2Proof.Machine

variable {s t : State} {i : Instr} {d a b : RegNum}

/-! ### Write-backs -/

/-- A word result in one GPR with its flags (spec/10_state.md R33 (a)). -/
theorem completes_writeW {o : AluOut 32} (h : exec i s = done (s.writeW d o)) :
    ∃ t, exec i s = .next t ∧ WroteRegs s t [d] [] ∧ t.gpr d = ⟨o.res, o.c, o.v, o.z⟩ :=
  completes_setGpr h

theorem completesW_aluOut {res : Word} {cv : BitVec 2} (h : exec i s = done (s.writeW d (aluOut res cv))) :
    CompletesW i s d res cv := by
  obtain ⟨t, ht, hwrote, hgpr⟩ := completes_writeW h
  refine ⟨t, ht, hwrote, congrArg Gpr.val hgpr, congrArg Gpr.c hgpr, congrArg Gpr.v hgpr, ?_⟩
  rw [hgpr]
  exact beq_iff_eq

/-- The counter of draws is outside every frame. -/
theorem WroteRegs.of_draw {gs fs : List RegNum} (h : WroteRegs s t.advance gs fs) :
    WroteRegs s t.draw.advance gs fs :=
  ⟨{ h.frame with system := { h.frame.system with } }, h.cr, h.pc⟩

/-- A long is its two halves. -/
theorem extract_halves (x : Long) : x.extractLsb' 32 32 ++ x.extractLsb' 0 32 = x :=
  (BitVec.extractLsb'_append_extractLsb'_eq_extractLsb' rfl).trans (extract_all x)

/-- A long result in a pair, its flags on the odd register (R25). -/
theorem completes_writeL {o : AluOut 64} (h : exec i s = done (s.writeL d o)) :
    ∃ t, exec i s = .next t ∧ WroteRegs s t [d, d + 1#5] [] ∧ t.pair d = o.res
      ∧ t.gpr (d + 1#5) = ⟨o.res.extractLsb' 32 32, o.c, o.v, o.z⟩ :=
  ⟨_, h, (wroteRegs_setGpr_pair s d _ _).of_draw,
    by simp [State.pair, State.reg, pair_ne d, extract_halves], by simp⟩

theorem completesL_aluOut {res : Long} {cv : BitVec 2} (h : exec i s = done (s.writeL d (aluOut res cv))) :
    CompletesL i s d res cv := by
  obtain ⟨t, ht, hwrote, hpair, hgpr⟩ := completes_writeL h
  refine ⟨t, ht, hwrote, hpair, congrArg Gpr.c hgpr, congrArg Gpr.v hgpr, ?_⟩
  rw [hgpr]
  exact beq_iff_eq

/-! ### The parity check of the long forms (R262) -/

theorem odd_any_iff : (odd d || odd a || odd b) = true ↔ odd d = true ∨ odd a = true ∨ odd b = true := by
  simp only [Bool.or_eq_true, or_assoc]

theorem odd_any_eq_false (hd : odd d = false) (ha : odd a = false) (hb : odd b = false) :
    (odd d || odd a || odd b) = false := by
  rw [hd, ha, hb]; rfl

theorem unaryL_odd {op : Long → AluOut 64} (h : odd d = true ∨ odd a = true) :
    unaryL op d a s = .next (s.raise 4) :=
  if_pos ((Bool.or_eq_true _ _).mpr h)

theorem binaryL_odd {op : Long → Long → AluOut 64} (h : odd d = true ∨ odd a = true ∨ odd b = true) :
    binaryL op d a b s = .next (s.raise 4) :=
  if_pos (odd_any_iff.mpr h)

theorem binaryL_even {op : Long → Long → AluOut 64} (hd : odd d = false) (ha : odd a = false) (hb : odd b = false) :
    binaryL op d a b s = done (s.writeL d (op (s.pair a) (s.pair b))) :=
  if_neg (Bool.eq_false_iff.mp (odd_any_eq_false hd ha hb))

theorem divideW_nonzero {op : Word → Word → AluOut 32} (hb : s.reg b ≠ 0#32) :
    divideW op d a b s = done (s.writeW d (op (s.reg a) (s.reg b))) :=
  if_neg hb

theorem divideL_odd {op : Long → Long → AluOut 64} (h : odd d = true ∨ odd a = true ∨ odd b = true) :
    divideL op d a b s = .next (s.raise 4) :=
  if_pos (odd_any_iff.mpr h)

theorem divideL_nonzero {op : Long → Long → AluOut 64} (hz : s.pair b ≠ 0#64) (hd : odd d = false)
    (ha : odd a = false) (hb : odd b = false) :
    divideL op d a b s = done (s.writeL d (op (s.pair a) (s.pair b))) :=
  ((if_neg (Bool.eq_false_iff.mp (odd_any_eq_false hd ha hb))).trans (if_neg hz)).trans (binaryL_even hd ha hb)

/-! ### mult.l in its two readings (R277, log 19) -/

theorem exec_multL_pairByPair (hm : s.params.multLMode = .pairByPair) :
    exec (.multL d a b) s = binaryL aluMult d a b s := by
  change execMultL d a b s = _
  simp only [execMultL, hm]

theorem exec_multL_wordByWord (hm : s.params.multLMode = .wordByWord) (hd : odd d = false) :
    exec (.multL d a b) s = done (s.writeL d (aluMult (extendWord (s.reg a)) (extendWord (s.reg b)))) := by
  change execMultL d a b s = _
  simp only [execMultL, hm, hd, Bool.false_eq_true, if_false]

/-- The destination is checked in both readings. -/
theorem exec_multL_odd_dst (hd : odd d = true) : exec (.multL d a b) s = .next (s.raise 4) := by
  cases hm : s.params.multLMode with
  | pairByPair => exact (exec_multL_pairByPair hm).trans (binaryL_odd (.inl hd))
  | wordByWord =>
    change execMultL d a b s = _
    simp only [execMultL, hm, hd, if_true]

/-- Settles O24: the parity check comes first in every long form. -/
theorem oddLongRaises : Obligations.OddLongRaises := by
  intro s d a b
  refine ⟨fun h => ?inv, fun h => ?twoSources, fun hd => ?multDst⟩
  case inv => exact raises_of_exec (by decide) (unaryL_odd (op := aluInv) h)
  case multDst => exact raises_of_exec (by decide) (exec_multL_odd_dst hd)
  case twoSources =>
    have binary {i : Instr} {op : Long → Long → AluOut 64} (hi : exec i s = binaryL op d a b s) : Raises i s 4 :=
      raises_of_exec (by decide) (hi.trans (binaryL_odd h))
    have divide {i : Instr} {op : Long → Long → AluOut 64} (hi : exec i s = divideL op d a b s) : Raises i s 4 :=
      raises_of_exec (by decide) (hi.trans (divideL_odd h))
    exact ⟨binary rfl, binary rfl, divide rfl, divide rfl, binary rfl, binary rfl, binary rfl, binary rfl, binary rfl,
      binary rfl, binary rfl, binary rfl, fun hm => binary (exec_multL_pairByPair hm)⟩

/-! ### Sums and differences -/

section SumsAndDifferences

variable {n : Nat} (x y : BitVec n)

/-- The overflow output of add is that of the signed sum (R261). -/
theorem aluAdd_v_iff :
    (aluAdd x y).v = true ↔ ¬(-2 ^ (n - 1) ≤ x.toInt + y.toInt ∧ x.toInt + y.toInt < 2 ^ (n - 1)) := by
  have h : (aluAdd x y).v = x.saddOverflow y := (BitVec.saddOverflow_eq x y).symm
  rw [h, BitVec.saddOverflow, Bool.or_eq_true, decide_eq_true_eq, decide_eq_true_eq]
  omega

/-- The overflow output of sub is that of the signed difference (R261). -/
theorem aluSub_v_iff :
    (aluSub x y).v = true ↔ ¬(-2 ^ (n - 1) ≤ x.toInt - y.toInt ∧ x.toInt - y.toInt < 2 ^ (n - 1)) := by
  have h : (aluSub x y).v = x.ssubOverflow y := by
    rw [BitVec.ssubOverflow_eq]
    change (x.msb != y.msb && (x - y).msb != x.msb) = _
    cases x.msb <;> cases y.msb <;> simp
  rw [h, BitVec.ssubOverflow, Bool.or_eq_true, decide_eq_true_eq, decide_eq_true_eq]
  omega

theorem aluAdd_c_iff : (aluAdd x y).c = true ↔ 2 ^ n ≤ x.toNat + y.toNat := decide_eq_true_iff

/-- The carry output of sub is a borrow in the polarity of `SUB_CARRY_IS_BORROW` (D13). -/
theorem aluSub_c_iff : (aluSub x y).c = Config.subCarryIsBorrow ↔ x.toNat < y.toNat := by
  change (if Config.subCarryIsBorrow then decide (x.toNat < y.toNat) else !decide (x.toNat < y.toNat)) = _ ↔ _
  cases Config.subCarryIsBorrow <;> simp

theorem aluAdd_z_iff : (aluAdd x y).z = true ↔ x + y = 0#n := beq_iff_eq

theorem aluSub_z_iff : (aluSub x y).z = true ↔ x = y :=
  beq_iff_eq.trans (by rw [BitVec.sub_eq_iff_eq_add, BitVec.zero_add])

end SumsAndDifferences

/-- An immediate read as a signed number is the sign-extended one (R264). -/
theorem eq_signExtend_of_toInt {y : Word} {imm : BitVec 16} (h : y.toInt = imm.toInt) : y = imm.signExtend 32 :=
  BitVec.eq_of_toInt_eq (h.trans (BitVec.toInt_signExtend_of_le (by decide)).symm)

/-- An immediate read as an unsigned number is the zero-extended one (R265). -/
theorem eq_setWidth_of_toNat {y : Word} {imm : BitVec 16} (h : y.toNat = imm.toNat) : y = imm.setWidth 32 :=
  BitVec.eq_of_toNat_eq (h.trans (BitVec.toNat_setWidth_of_le (by decide)).symm)

/-- Settles O14: the three forms differ in their second operand only. -/
theorem addWord : Obligations.AddWord := by
  intro s d a b imm i y h
  have hexec : exec i s = done (s.writeW d (aluAdd (s.reg a) y)) := by
    obtain ⟨rfl, rfl⟩ | ⟨rfl, hy⟩ | ⟨rfl, hy⟩ := h
    · rfl
    · rw [eq_signExtend_of_toInt hy]; rfl
    · rw [eq_setWidth_of_toNat hy]; rfl
  obtain ⟨t, ht, hwrote, hgpr⟩ := completes_writeW hexec
  refine ⟨t, ht, hwrote, congrArg Gpr.val hgpr, ?_⟩
  rw [hgpr]
  exact ⟨aluAdd_c_iff _ y, aluAdd_v_iff _ y, aluAdd_z_iff _ y⟩

/-- Settles O15: as for add. -/
theorem subWord : Obligations.SubWord := by
  intro s d a b imm i y h
  have hexec : exec i s = done (s.writeW d (aluSub (s.reg a) y)) := by
    obtain ⟨rfl, rfl⟩ | ⟨rfl, hy⟩ | ⟨rfl, hy⟩ := h
    · rfl
    · rw [eq_signExtend_of_toInt hy]; rfl
    · rw [eq_setWidth_of_toNat hy]; rfl
  obtain ⟨t, ht, hwrote, hgpr⟩ := completes_writeW hexec
  refine ⟨t, ht, hwrote, congrArg Gpr.val hgpr, ?_⟩
  rw [hgpr]
  exact ⟨aluSub_c_iff _ y, aluSub_v_iff _ y, aluSub_z_iff _ y⟩

/-- Settles O16: on even numbers both are one 64-bit write-back. -/
theorem addSubLong : Obligations.AddSubLong := by
  rintro s d a b _ _ rfl rfl hd ha hb
  constructor
  case left =>
    obtain ⟨t, ht, hwrote, hpair, hgpr⟩ := completes_writeL (i := .addL d a b) (binaryL_even (op := aluAdd) hd ha hb)
    refine ⟨t, ht, hwrote, hpair, ?_⟩
    rw [hgpr]
    exact ⟨aluAdd_c_iff _ _, aluAdd_v_iff _ _, aluAdd_z_iff _ _⟩
  case right =>
    obtain ⟨t, ht, hwrote, hpair, hgpr⟩ := completes_writeL (i := .subL d a b) (binaryL_even (op := aluSub) hd ha hb)
    refine ⟨t, ht, hwrote, hpair, ?_⟩
    rw [hgpr]
    exact ⟨aluSub_c_iff _ _, aluSub_v_iff _ _, aluSub_z_iff _ _⟩

/-! ### Products -/

/-- The product of two sign-extended words loses nothing in 64 bits. -/
theorem toInt_mul_signExtend (x y : Word) : (x.signExtend 64 * y.signExtend 64).toInt = x.toInt * y.toInt := by
  rw [BitVec.toInt_mul, BitVec.toInt_signExtend_of_le (by decide), BitVec.toInt_signExtend_of_le (by decide)]
  have hle : x.toInt * y.toInt ≤ 2 ^ 62 := BitVec.toInt_mul_toInt_le
  have hge : -(2 ^ 62) ≤ x.toInt * y.toInt := by
    have hx := x.le_toInt
    have hx' := x.toInt_lt
    have hy := y.le_toInt
    have hy' := y.toInt_lt
    simp only [Nat.reduceSub] at hx hx' hy hy'
    nlinarith
  exact Int.bmod_eq_of_le (by omega) (by omega)

/-- The product of two zero-extended words loses nothing in 64 bits. -/
theorem toNat_mul_setWidth (x y : Word) : (x.setWidth 64 * y.setWidth 64).toNat = x.toNat * y.toNat := by
  rw [BitVec.toNat_mul, BitVec.toNat_setWidth_of_le (by decide), BitVec.toNat_setWidth_of_le (by decide)]
  exact Nat.mod_eq_of_lt ((Nat.mul_lt_mul'' x.isLt y.isLt).trans_le (by decide))

/-- The product of two words extended to longs is their whole product, in either signedness (log 19). -/
theorem mul_extendWord (x y : Word) :
    if Config.multLWordSigned = true then (extendWord x * extendWord y).toInt = x.toInt * y.toInt
    else (extendWord x * extendWord y).toNat = x.toNat * y.toNat := by
  unfold extendWord
  cases Config.multLWordSigned with
  | true => exact toInt_mul_signExtend x y
  | false => exact toNat_mul_setWidth x y

/-- Settles O17: the low half of the product, and in the word-by-word reading all of it. -/
theorem multiply : Obligations.Multiply := by
  intro s d a b
  refine ⟨⟨s.reg a * s.reg b, BitVec.toNat_mul _ _, completesW_aluOut rfl⟩, fun hm hd ha hb => ?pair,
    fun hm hd => ?word⟩
  case pair =>
    exact ⟨s.pair a * s.pair b, BitVec.toNat_mul _ _,
      completesL_aluOut ((exec_multL_pairByPair hm).trans (binaryL_even hd ha hb))⟩
  case word =>
    exact ⟨_, _, mul_extendWord (s.reg a) (s.reg b), completesL_aluOut (exec_multL_wordByWord hm hd)⟩

/-! ### Quotients and remainders -/

section Division

variable {n : Nat} (x y : BitVec n)

theorem quotient_divides (signed : Bool) : divides signed x y (quotient signed x y) := by
  cases signed with
  | true => rfl
  | false =>
    change (BitVec.ofNat n (x.toNat / y.toNat)).toNat = _
    rw [BitVec.toNat_ofNat, Nat.mod_eq_of_lt ((Nat.div_le_self _ _).trans_lt x.isLt)]

/-- A signed remainder by a divisor that is not zero is a signed number of `n` bits. -/
theorem tmod_toInt_bounds (hy : y ≠ 0#n) :
    -2 ^ (n - 1) ≤ x.toInt.tmod y.toInt ∧ x.toInt.tmod y.toInt < 2 ^ (n - 1) := by
  have hy0 : y.toInt ≠ 0 := fun h => hy (BitVec.eq_of_toInt_eq (h.trans BitVec.toInt_zero.symm))
  have habs := Int.natAbs_tmod x.toInt y.toInt
  have hlt := Nat.mod_lt x.toInt.natAbs (Int.natAbs_pos.2 hy0)
  have hlo := y.le_toInt
  have hhi := y.toInt_lt
  generalize (2 : Int) ^ (n - 1) = p at *
  omega

/-- What the quotient leaves is the remainder of the truncated division (R284). -/
theorem remainder_leaves (signed : Bool) (hn : 0 < n) (hy : y ≠ 0#n) :
    leaves signed x y (x - quotient signed x y * y) := by
  cases signed with
  | true =>
    change (x - BitVec.ofInt n (x.toInt.tdiv y.toInt) * y).toInt = x.toInt.tmod y.toInt
    obtain ⟨hlo, hhi⟩ := tmod_toInt_bounds x y hy
    rw [← BitVec.toInt_ofInt_eq_self hn hlo hhi]
    congr 1
    rw [Int.tmod_def, Int.sub_eq_add_neg, BitVec.ofInt_add, BitVec.ofInt_neg, BitVec.ofInt_mul, BitVec.ofInt_toInt,
      BitVec.ofInt_toInt, BitVec.mul_comm, BitVec.sub_eq_add_neg]
  | false =>
    change (x - BitVec.ofNat n (x.toNat / y.toNat) * y).toNat = x.toNat % y.toNat
    have hq := Nat.mod_eq_of_lt ((Nat.div_le_self x.toNat y.toNat).trans_lt x.isLt)
    have hle := Nat.div_mul_le_self x.toNat y.toNat
    have hmul : (BitVec.ofNat n (x.toNat / y.toNat) * y).toNat = x.toNat / y.toNat * y.toNat := by
      rw [BitVec.toNat_mul, BitVec.toNat_ofNat, hq, Nat.mod_eq_of_lt (hle.trans_lt x.isLt)]
    rw [BitVec.toNat_sub_of_le (BitVec.le_def.2 (hmul ▸ hle)), hmul, Nat.mod_eq_sub_div_mul]

end Division

/-- Settles O18: past the check of the divisor both are one write-back. -/
theorem divideWord : Obligations.DivideWord := fun s _ a b hz =>
  ⟨⟨_, quotient_divides (s.reg a) (s.reg b) _, completesW_aluOut (divideW_nonzero hz)⟩,
    ⟨_, remainder_leaves (s.reg a) (s.reg b) _ (by decide) hz, completesW_aluOut (divideW_nonzero hz)⟩⟩

/-- Settles O19: as for words, past the parity check too. -/
theorem divideLong : Obligations.DivideLong := fun s _ a b hz hd ha hb =>
  ⟨⟨_, quotient_divides (s.pair a) (s.pair b) _, completesL_aluOut (divideL_nonzero hz hd ha hb)⟩,
    ⟨_, remainder_leaves (s.pair a) (s.pair b) _ (by decide) hz, completesL_aluOut (divideL_nonzero hz hd ha hb)⟩⟩

/-! ### Rotates and shifts, bit by bit -/

section Shifts

variable {n m k : Nat} (x : BitVec n)

theorem getLsbD_rotateLeft_of_lt (hm : m < n) (hk : k < n) :
    (x.rotateLeft m).getLsbD k = x.getLsbD ((k + n - m) % n) := by
  rw [BitVec.getLsbD_rotateLeft, Nat.mod_eq_of_lt hm]
  by_cases h : k < m
  · rw [decide_eq_true h, cond_true, Nat.mod_eq_of_lt (by omega), show n - m + k = k + n - m by omega]
  · rw [decide_eq_false h, cond_false, decide_eq_true hk, Bool.true_and,
      show k + n - m = k - m + n by omega, Nat.add_mod_right, Nat.mod_eq_of_lt (by omega)]

theorem getLsbD_rotateRight_of_lt (hm : m < n) (hk : k < n) :
    (x.rotateRight m).getLsbD k = x.getLsbD ((k + m) % n) := by
  rw [BitVec.getLsbD_rotateRight, Nat.mod_eq_of_lt hm]
  by_cases h : k < n - m
  · rw [decide_eq_true h, cond_true, Nat.mod_eq_of_lt (by omega), Nat.add_comm]
  · rw [decide_eq_false h, cond_false, decide_eq_true hk, Bool.true_and,
      show k + m = k - (n - m) + n by omega, Nat.add_mod_right, Nat.mod_eq_of_lt (by omega)]

theorem getLsbD_shiftLeft_of_lt (hk : k < n) :
    (x <<< m).getLsbD k = (decide (m ≤ k) && x.getLsbD (k - m)) := by
  rw [BitVec.getLsbD_shiftLeft, decide_eq_true hk, Bool.true_and, ← decide_not]
  simp only [Nat.not_lt]

theorem getLsbD_sshiftRight_of_lt (hk : k < n) :
    (x.sshiftRight m).getLsbD k = if k + m < n then x.getLsbD (k + m) else x.getLsbD (n - 1) := by
  rw [BitVec.getLsbD_sshiftRight, decide_eq_false (Nat.not_le.2 hk), Bool.not_false, Bool.true_and, Nat.add_comm m k,
    BitVec.msb_eq_getLsbD_last]

theorem getLsbD_ushiftRight_decide :
    (x >>> m).getLsbD k = (decide (k + m < n) && x.getLsbD (k + m)) := by
  rw [BitVec.getLsbD_ushiftRight, Nat.add_comm m k]
  by_cases h : k + m < n
  · rw [decide_eq_true h, Bool.true_and]
  · rw [decide_eq_false h, Bool.false_and, BitVec.getLsbD_of_ge x _ (Nat.not_lt.1 h)]

end Shifts

/-- Settles O21, bit by bit for an amount below 32. -/
theorem shiftWord : Obligations.ShiftWord := by
  rintro s d a b _ n rfl hn
  have hlt : n < 32 := hn ▸ Nat.mod_lt _ (by decide)
  subst hn
  exact ⟨⟨_, fun _ hk => getLsbD_rotateLeft_of_lt _ hlt hk, completesW_aluOut rfl⟩,
    ⟨_, fun _ hk => getLsbD_rotateRight_of_lt _ hlt hk, completesW_aluOut rfl⟩,
    ⟨_, fun _ hk => getLsbD_shiftLeft_of_lt _ hk, completesW_aluOut rfl⟩,
    ⟨_, fun _ hk => getLsbD_sshiftRight_of_lt _ hk, completesW_aluOut rfl⟩,
    ⟨_, fun _ _ => getLsbD_ushiftRight_decide _, completesW_aluOut rfl⟩⟩

/-- The low six bits of a pair are those of its even register (R294). -/
theorem shiftAmount_pair (s : State) (r : RegNum) : shiftAmount (s.pair r) = (s.reg r).toNat % 64 := by
  unfold shiftAmount State.pair
  rw [toNat_append_eq_mul_add]
  omega

/-- Settles O22, bit by bit for an amount below 64. -/
theorem shiftLong : Obligations.ShiftLong := by
  rintro s d a b _ n rfl hn hd ha hb
  have hlt : n < 64 := hn ▸ Nat.mod_lt _ (by decide)
  rw [← shiftAmount_pair] at hn
  subst hn
  have completes {i : Instr} {op : Long → Long → AluOut 64} {res : Long} {cv : BitVec 2}
      (h : exec i s = binaryL op d a b s) (hop : op (s.pair a) (s.pair b) = aluOut res cv) : CompletesL i s d res cv :=
    completesL_aluOut (hop ▸ h.trans (binaryL_even hd ha hb))
  exact ⟨⟨_, fun _ hk => getLsbD_rotateLeft_of_lt _ hlt hk, completes rfl rfl⟩,
    ⟨_, fun _ hk => getLsbD_rotateRight_of_lt _ hlt hk, completes rfl rfl⟩,
    ⟨_, fun _ hk => getLsbD_shiftLeft_of_lt _ hk, completes rfl rfl⟩,
    ⟨_, fun _ hk => getLsbD_sshiftRight_of_lt _ hk, completes rfl rfl⟩,
    ⟨_, fun _ _ => getLsbD_ushiftRight_decide _, completes rfl rfl⟩⟩

end Sys2Proof.Machine

/-! SUPPORT. The floating point forms: the traps before the operation, and with an FPU the write-back, its flags and the
causes it pends (spec/42_arithmetic.md R260, R263, spec/10_state.md R31, R38, spec/60_exceptions.md R517). -/

namespace Sys2Proof.Machine

variable {s t : State} {i : Instr} {d a b : RegNum}

/-! ### The checks before the operation -/

theorem fpuF_absent {op : FpuOp} (hf : s.params.hasFpu = false) : fpuF op d a b s = .next (s.raise 8) :=
  if_neg (Bool.eq_false_iff.mp hf)

theorem fpuD_absent {op : FpuOp} (hf : s.params.hasFpu = false) : fpuD op d a b s = .next (s.raise 8) :=
  if_neg (Bool.eq_false_iff.mp hf)

theorem fpuD_odd {op : FpuOp} (hf : s.params.hasFpu = true) (h : odd d = true ∨ odd a = true ∨ odd b = true) :
    fpuD op d a b s = .next (s.raise 5) :=
  (if_pos hf).trans (if_pos (odd_any_iff.mpr h))

theorem fpuF_present {op : FpuOp} (hf : s.params.hasFpu = true) :
    fpuF op d a b s =
      done ((s.pendCauses (op.single s.rnd (s.freg a) (s.freg b)).causes).writeF d
        (fpOut32 ((op.single s.rnd (s.freg a) (s.freg b)).res.bits32 s.drawn))).draw :=
  if_pos hf

theorem fpuD_even {op : FpuOp} (hf : s.params.hasFpu = true) (hd : odd d = false) (ha : odd a = false)
    (hb : odd b = false) :
    fpuD op d a b s =
      done ((s.pendCauses (op.double s.rnd (s.fpair a) (s.fpair b)).causes).writeD d
        (fpOut64 ((op.double s.rnd (s.fpair a) (s.fpair b)).res.bits64 s.drawn))) :=
  (if_pos hf).trans (if_neg (Bool.eq_false_iff.mp (odd_any_eq_false hd ha hb)))

/-- Settles O26: the FPU is checked first, then the parity. -/
theorem fpuTraps : Obligations.FpuTraps := by
  intro s d a b
  refine ⟨fun hf => ?absent, fun hf h => ?odd⟩
  case absent =>
    have single {i : Instr} {op : FpuOp} (hi : exec i s = fpuF op d a b s) : Raises i s 8 :=
      raises_of_exec (by decide) (hi.trans (fpuF_absent hf))
    have double {i : Instr} {op : FpuOp} (hi : exec i s = fpuD op d a b s) : Raises i s 8 :=
      raises_of_exec (by decide) (hi.trans (fpuD_absent hf))
    exact ⟨single rfl, single rfl, single rfl, single rfl, double rfl, double rfl, double rfl, double rfl⟩
  case odd =>
    have double {i : Instr} {op : FpuOp} (hi : exec i s = fpuD op d a b s) : Raises i s 5 :=
      raises_of_exec (by decide) (hi.trans (fpuD_odd hf h))
    exact ⟨double rfl, double rfl, double rfl, double rfl⟩

/-! ### Causes -/

/-- Pending a cause if it is signalled sets at most its bit. -/
theorem State.cr_pendIf_bit (s : State) (c : Bool) {k : Nat} (hk : k < 32) (j : Nat) :
    (s.pendIf c k).cr.getLsbD j = (s.cr.getLsbD j || decide (j = k) && c) := by
  cases c with
  | false => rw [Bool.and_false, Bool.or_false]; rfl
  | true =>
    change (s.pend k).cr.getLsbD j = _
    rw [Bool.and_true]
    by_cases hj : j < 32
    · rw [State.cr_pend_bit s hj, Bool.or_comm]
    · rw [BitVec.getLsbD_of_ge _ _ (by omega), BitVec.getLsbD_of_ge _ _ (by omega), decide_eq_false (by omega)]
      rfl

/-- The four causes of the FPU, bit by bit (R517). -/
theorem causesPended_of_cr {c : Causes} (h : t.cr = (s.pendCauses c).cr) : CausesPended s t c := by
  intro k
  rw [h]
  unfold State.pendCauses
  rw [State.cr_pendIf_bit _ _ (by decide), State.cr_pendIf_bit _ _ (by decide), State.cr_pendIf_bit _ _ (by decide),
    State.cr_pendIf_bit _ _ (by decide)]

/-! ### Frames -/

theorem Frame.pendCauses {gs fs : List RegNum} {as : List Word} (h : Frame s t gs fs as) (c : Causes) :
    Frame s (t.pendCauses c) gs fs as := by
  rw [State.pendCauses_eq]
  exact { h with system := { h.system with } }

theorem Frame.draw {gs fs : List RegNum} {as : List Word} (h : Frame s t gs fs as) : Frame s t.draw gs fs as :=
  { h with system := { h.system with } }

theorem Frame.writeF {gs fs : List RegNum} {as : List Word} (h : Frame s t gs fs as) (hd : d ∈ fs) (o : FpOut 32) :
    Frame s (t.writeF d o) gs fs as :=
  h.setFpr hd _

theorem Frame.writeD {gs fs : List RegNum} {as : List Word} (h : Frame s t gs fs as) (hd : d ∈ fs)
    (hd' : d + 1#5 ∈ fs) (o : FpOut 64) : Frame s (t.writeD d o) gs fs as :=
  ((h.setFpr hd _).setFpr hd' _).draw

theorem State.pc_pendCauses (s : State) (c : Causes) : (s.pendCauses c).pc = s.pc := by
  rw [State.pendCauses_eq]

/-! ### The flags of a result (R31) -/

theorem flagsF_fpOut32 (x : Word) : FlagsF ⟨x, (fpOut32 x).a, (fpOut32 x).i, (fpOut32 x).z⟩ x := by
  refine ⟨?nan, ?inf, ?zero⟩
  case nan => simp [fpOut32, IsNan32, imp_iff_not_or]
  case inf => simp [fpOut32, IsInf32]
  case zero =>
    simp only [fpOut32, IsZero32, Bool.and_eq_true, beq_iff_eq, ← BitVec.toNat_inj, BitVec.extractLsb'_toNat,
      Nat.shiftRight_eq_div_pow, BitVec.toNat_ofNat]
    omega

theorem flagsD_fpOut64 (x : Long) (g : Word) : FlagsD ⟨g, (fpOut64 x).a, (fpOut64 x).i, (fpOut64 x).z⟩ x := by
  refine ⟨?nan, ?inf, ?zero⟩
  case nan => simp [fpOut64, IsNan64, imp_iff_not_or]
  case inf => simp [fpOut64, IsInf64]
  case zero =>
    simp only [fpOut64, IsZero64, Bool.and_eq_true, beq_iff_eq, ← BitVec.toNat_inj, BitVec.extractLsb'_toNat,
      Nat.shiftRight_eq_div_pow, BitVec.toNat_ofNat]
    omega

/-! ### The operations with an FPU -/

theorem completesFpuF_of_exec {op : FpuOp} (hi : exec i s = fpuF op d a b s) (hf : s.params.hasFpu = true) :
    CompletesFpuF i s d (op.single s.rnd (s.freg a) (s.freg b)) := by
  have hframe (c : Causes) (o : FpOut 32) : Frame s ((s.pendCauses c).writeF d o).draw.advance [] [d] [] :=
    ((((Frame.refl s [] [d] []).pendCauses c).writeF (by simp) o).draw).advance
  refine ⟨_, hi.trans (fpuF_present hf), hframe _ _, ?pc, ?value, ?flags, causesPended_of_cr rfl⟩
  case pc => exact congrArg (· + 1#30) (State.pc_pendCauses s _)
  case value => simp [State.freg, fpOut32]
  case flags =>
    simp only [State.freg, State.fpr_advance, State.fpr_draw, State.fpr_writeF, if_true]
    exact flagsF_fpOut32 _

theorem completesFpuD_of_exec {op : FpuOp} (hi : exec i s = fpuD op d a b s) (hf : s.params.hasFpu = true)
    (hd : odd d = false) (ha : odd a = false) (hb : odd b = false) :
    CompletesFpuD i s d (op.double s.rnd (s.fpair a) (s.fpair b)) := by
  have hframe (c : Causes) (o : FpOut 64) : Frame s ((s.pendCauses c).writeD d o).advance [] [d, d + 1#5] [] :=
    (((Frame.refl s [] [d, d + 1#5] []).pendCauses c).writeD (by simp) (by simp) o).advance
  have hvalue (u : State) (o : FpOut 64) : (u.writeD d o).advance.fpair d = o.res := by
    simp [State.fpair, State.freg, pair_ne d, extract_halves]
  refine ⟨_, hi.trans (fpuD_even hf hd ha hb), hframe _ _, ?pc, hvalue _ _, ?flags, causesPended_of_cr rfl⟩
  case pc => exact congrArg (· + 1#30) (State.pc_pendCauses s _)
  case flags =>
    rw [hvalue]
    simp only [State.fpr_advance, State.fpr_writeD, if_true]
    exact flagsD_fpOut64 _ _

/-- The rounding mode by the two bits of CFG (R38). -/
theorem State.rnd_eq (s : State) :
    s.rnd = if s.cfg.getLsbD 5 then (if s.cfg.getLsbD 4 then .rm else .rp)
      else if s.cfg.getLsbD 4 then .rz else .rn := by
  unfold State.rnd
  generalize s.cfg = c
  revert c
  decide

/-- Settles O25: each instruction is its form on the operation of Machine/Ieee.lean. -/
theorem fpuCompletes : Obligations.FpuCompletes := by
  intro s d a b hf
  refine ⟨fun h5 h4 => ?_, fun h5 h4 => ?_, fun h5 h4 => ?_, fun h5 h4 => ?_, ?single, ?double⟩
  case single =>
    rintro _ _ rfl rfl
    have completes {i : Instr} (op : FpuOp) (hi : exec i s = fpuF op d a b s) := completesFpuF_of_exec hi hf
    exact ⟨completes fpAdd rfl, completes fpSub rfl, completes fpMul rfl, completes fpDiv rfl⟩
  case double =>
    rintro _ _ rfl rfl hd ha hb
    have completes {i : Instr} (op : FpuOp) (hi : exec i s = fpuD op d a b s) := completesFpuD_of_exec hi hf hd ha hb
    exact ⟨completes fpAdd rfl, completes fpSub rfl, completes fpMul rfl, completes fpDiv rfl⟩
  all_goals rw [State.rnd_eq, h5, h4]; rfl

end Sys2Proof.Machine

/-! SUPPORT. One rounding of an exact result: overflow and underflow, sums and products, and a quotient known up to a
sticky bit (spec/42_arithmetic.md R263, spec/10_state.md R38). -/

namespace Sys2Proof.Machine

/-! ### Rounding a value that `m * 2 ^ e` stands for -/

/-- Rounding `m * 2 ^ e` rounds the number `x`, in every mode. -/
structure RoundsAs (f : FpFmt) (m : Nat) (e : Int) (x : ℚ) : Prop where
  rounded : ∀ rnd neg, IsRounded f rnd neg x (roundMag f rnd neg m e).1
  inexact : ∀ rnd neg, (roundMag f rnd neg m e).2 = true ↔ magValue f (roundMag f rnd neg m e).1 ≠ x
  lt : x < (2 : ℚ) ^ (leadExp m e + 1)

/-- What is below the next power of two in units of `2 ^ e` is so in value. -/
theorem lt_leadExp {m N : Nat} {e : Int} (h : N ≤ 2 ^ (m.log2 + 1)) : (N : ℚ) * 2 ^ e ≤ (2 : ℚ) ^ (leadExp m e + 1) := by
  have hN : (N : ℚ) ≤ 2 ^ (m.log2 + 1) := mod_cast h
  calc (N : ℚ) * 2 ^ e ≤ 2 ^ (m.log2 + 1) * 2 ^ e := mul_le_mul_of_nonneg_right hN (by positivity)
    _ = (2 : ℚ) ^ (leadExp m e + 1) := by
      rw [← zpow_natCast, ← zpow_add₀ (by norm_num), leadExp]
      congr 1
      push_cast
      ring

/-- A number is rounded as what it is. -/
theorem roundsAs_finValue {f : FpFmt} (hf : 0 < f.fracBits) {m : Nat} (hm : m ≠ 0) (e : Int) :
    RoundsAs f m e (finValue false m e) where
  rounded rnd neg := (roundMag_isRounded hf rnd neg hm e).1
  inexact rnd neg := (roundMag_isRounded hf rnd neg hm e).2
  lt := by
    have hlt : (m : ℚ) * 2 ^ e < (m + 1 : Nat) * 2 ^ e := by
      push_cast
      exact mul_lt_mul_of_pos_right (lt_add_one _) (by positivity)
    simpa [finValue] using hlt.trans_le (lt_leadExp (m := m) Nat.lt_log2_self)

/-! ### Underflow -/

/-- What is rounded up with one bit more, and that bit set, is rounded up without it. -/
theorem roundsUp_coarser {rnd : Config.Rnd} {neg : Bool} {d r K : Nat} (hd : 0 < d) (k : Nat)
    (h : roundsUp rnd neg d r K = true) : roundsUp rnd neg (2 * d) (d + r) k = true := by
  cases rnd with
  | rn =>
    simp only [roundsUp, Bool.or_eq_true, Bool.and_eq_true, decide_eq_true_eq, beq_iff_eq] at h ⊢
    omega
  | rz => exact h
  | rp | rm =>
    simp only [roundsUp, Bool.and_eq_true, bne_iff_ne] at h ⊢
    exact ⟨by omega, h.2⟩

/-- A significand that stays below a power of two with one bit lost stays below the next power of two with that bit
kept. -/
theorem roundInt_finer_lt {rnd : Config.Rnd} {neg : Bool} {m n : Nat} {sh : Int}
    (h : (roundInt rnd neg m sh).1 < 2 ^ n) : (roundInt rnd neg m (sh - 1)).1 < 2 ^ (n + 1) := by
  rw [roundInt_eq] at h ⊢
  simp only [Nat.pow_succ] at h ⊢
  obtain hsh | ⟨a, rfl⟩ : sh ≤ 0 ∨ ∃ a : Nat, sh = a + 1 :=
    (le_or_gt sh 0).imp_right fun h => ⟨(sh - 1).toNat, by omega⟩
  case inl =>
    have hcoarse : sh.toNat = 0 := by omega
    have hfine : (sh - 1).toNat = 0 := by omega
    have hexp : (-(sh - 1)).toNat = (-sh).toNat + 1 := by omega
    rw [hcoarse, pow_zero, Nat.div_one, Nat.mod_one, roundsUp_zero _ _ (by decide), Bool.toNat_false] at h
    rw [hfine, hexp, pow_zero, Nat.div_one, Nat.mod_one, roundsUp_zero _ _ (by decide), Bool.toNat_false, Nat.pow_succ,
      ← Nat.mul_assoc]
    omega
  case inr =>
    have hcoarse : ((a : Int) + 1).toNat = a + 1 := by omega
    have hfine : ((a : Int) + 1 - 1).toNat = a := by omega
    have hexp : (-((a : Int) + 1)).toNat = 0 ∧ (-((a : Int) + 1 - 1)).toNat = 0 := by omega
    rw [hcoarse, hexp.1, pow_zero, Nat.mul_one, Nat.mod_pow_succ, Nat.pow_succ, ← Nat.div_div_eq_div_mul] at h
    rw [hfine, hexp.2, pow_zero, Nat.mul_one]
    generalize m / 2 ^ a = K at *
    generalize m % 2 ^ a = R at *
    have hpos : 0 < 2 ^ a := Nat.two_pow_pos a
    generalize 2 ^ a = D at *
    cases hup : roundsUp rnd neg D R K with
    | false => rw [Bool.toNat_false]; omega
    | true =>
      obtain hK | hK := Nat.mod_two_eq_zero_or_one K
      · rw [Bool.toNat_true]; omega
      · rw [hK, Nat.mul_one, Nat.mul_comm D 2, Nat.add_comm R D, roundsUp_coarser hpos _ hup, Bool.toNat_true] at h
        rw [Bool.toNat_true]
        omega

theorem magValue_two_pow_fracBits (f : FpFmt) : magValue f (2 ^ f.fracBits) = (2 : ℚ) ^ f.expMin := by
  have h := magValue_scaled f (E := 0) (.inl rfl) (Nat.pow_le_pow_right (by decide) (Nat.le_succ f.fracBits))
  rw [Nat.zero_mul, Nat.zero_add] at h
  rw [h]
  push_cast
  rw [← zpow_natCast, ← zpow_add₀ (by norm_num), FpFmt.ulpMin]
  congr 1
  ring

theorem two_zpow_leadExp_le {m : Nat} (hm : m ≠ 0) (e : Int) : (2 : ℚ) ^ leadExp m e ≤ finValue false m e := by
  have hlog : (2 : ℚ) ^ m.log2 ≤ m := mod_cast Nat.log2_self_le hm
  calc (2 : ℚ) ^ leadExp m e = 2 ^ m.log2 * 2 ^ e := by
        rw [leadExp, zpow_add₀ (by norm_num), zpow_natCast, mul_comm]
    _ ≤ m * 2 ^ e := mul_le_mul_of_nonneg_right hlog (by positivity)
    _ = finValue false m e := by simp [finValue]

/-- What is rounded to a subnormal magnitude has its leading bit below that of the smallest normal number. -/
theorem leadExp_lt_of_roundMag {f : FpFmt} {rnd : Config.Rnd} {neg : Bool} {m : Nat} {e : Int} (hm : m ≠ 0)
    (h : (roundMag f rnd neg m e).1 < 2 ^ f.fracBits) : leadExp m e < f.expMin := by
  by_contra hle
  have hlow : lowMag f m e ≤ (roundMag f rnd neg m e).1 := by
    rw [roundMag_eq, roundInt_eq, ← Nat.add_assoc]
    exact Nat.le_add_right ..
  have hval : magValue f (2 ^ f.fracBits) < magValue f (lowMag f m e + 1) := by
    rw [magValue_two_pow_fracBits]
    calc (2 : ℚ) ^ f.expMin ≤ 2 ^ leadExp m e := zpow_le_zpow_right₀ (by norm_num) (not_lt.1 hle)
      _ ≤ finValue false m e := two_zpow_leadExp_le hm e
      _ < magValue f (lowMag f m e + 1) := (between_lowMag f hm e).lt_next
  have := (magValue_strictMono f).lt_iff_lt.1 hval
  omega

/-- A subnormal result is tiny however tininess is detected (log 14). -/
theorem tiny_of_roundMag {f : FpFmt} {rnd : Config.Rnd} {neg : Bool} {m : Nat} {e : Int} (hm : m ≠ 0)
    (h : (roundMag f rnd neg m e).1 < 2 ^ f.fracBits) : tiny f rnd neg m e = true := by
  have hlt := leadExp_lt_of_roundMag hm h
  have after : tinyAfter f rnd neg m e = true := by
    simp only [tinyAfter, Bool.or_eq_true, Bool.and_eq_true, decide_eq_true_eq]
    refine (lt_or_eq_of_le (Int.le_sub_one_of_lt hlt)).imp_right fun heq => ⟨heq, ?_⟩
    have hlast : lastExp f m e = f.ulpMin := by
      rw [lastExp, heq, FpFmt.ulpMin]
      omega
    rw [roundMag_eq, hlast] at h
    rw [heq, show f.expMin - 1 - f.fracBits - e = f.ulpMin - e - 1 by rw [FpFmt.ulpMin]; ring]
    exact roundInt_finer_lt (Nat.lt_of_le_of_lt (Nat.le_add_left ..) h)
  rw [tiny, after, Bool.true_or]

/-- A tiny result has its leading bit below that of the smallest normal number. -/
theorem leadExp_lt_of_tiny {f : FpFmt} {rnd : Config.Rnd} {neg : Bool} {m : Nat} {e : Int}
    (h : tiny f rnd neg m e = true) : leadExp m e < f.expMin := by
  simp only [tiny, tinyAfter, Bool.or_eq_true, Bool.and_eq_true, decide_eq_true_eq] at h
  omega

/-! ### One rounding with overflow and underflow -/

theorem roundFinite_overflow {f : FpFmt} {rnd : Config.Rnd} {neg : Bool} {m : Nat} {e : Int}
    (h : f.infMag ≤ (roundMag f rnd neg m e).1) :
    roundFinite f rnd neg m e = ⟨.num neg (overflowMag f rnd neg), { overflow := true }⟩ :=
  if_pos h

theorem roundFinite_finite {f : FpFmt} {rnd : Config.Rnd} {neg : Bool} {m : Nat} {e : Int}
    (h : (roundMag f rnd neg m e).1 < f.infMag) :
    roundFinite f rnd neg m e =
      ⟨.num neg (roundMag f rnd neg m e).1, { underflow := (roundMag f rnd neg m e).2 && tiny f rnd neg m e }⟩ :=
  if_neg (Nat.not_le.2 h)

/-- The largest subnormal magnitude is below infinity's. -/
theorem FpFmt.two_pow_fracBits_le_infMag {f : FpFmt} (hf : 0 < f.expBits) : 2 ^ f.fracBits ≤ f.infMag := by
  have := Nat.one_lt_two_pow hf.ne'
  exact Nat.le_mul_of_pos_left _ (Nat.sub_pos_of_lt this)

/-- A rounded result is the exact one rounded once, when the magnitude stands for it. -/
theorem roundFinite_correctlyRounded {f : FpFmt} (hf : 0 < f.expBits) {m : Nat} (hm : m ≠ 0) {e : Int} {z : ℚ}
    (h : RoundsAs f m e |z|) (rnd : Config.Rnd) :
    CorrectlyRounded f rnd z (roundFinite f rnd (decide (z < 0)) m e) := by
  refine ⟨_, h.rounded rnd (decide (z < 0)), ?_⟩
  have hinexact := h.inexact rnd (decide (z < 0))
  obtain hover | hfin := le_or_gt f.infMag (roundMag f rnd (decide (z < 0)) m e).1
  · have := FpFmt.two_pow_fracBits_le_infMag hf
    rw [roundFinite_overflow hover]
    exact ⟨rfl, rfl, fun hlt => absurd hover (Nat.not_le.2 hlt), fun _ => ⟨rfl, rfl⟩, nofun, fun hlt => by omega⟩
  · rw [roundFinite_finite hfin]
    refine ⟨rfl, rfl, fun _ => ⟨rfl, rfl⟩, fun hover => absurd hover (Nat.not_le.2 hfin), fun hunder => ?tiny,
      fun hsub hne => ?subnormal⟩
    case tiny =>
      obtain ⟨hx, ht⟩ := Bool.and_eq_true_iff.1 hunder
      exact ⟨hinexact.1 hx, h.lt.trans_le (zpow_le_zpow_right₀ (by norm_num) (leadExp_lt_of_tiny ht))⟩
    case subnormal => exact Bool.and_eq_true_iff.2 ⟨hinexact.2 hne, tiny_of_roundMag hm hsub⟩

/-! ### Sums and products -/

theorem finValue_neg (neg : Bool) (m : Nat) (e : Int) : finValue (!neg) m e = -finValue neg m e := by
  cases neg <;> simp [finValue]

theorem finValue_eq_zero_iff {neg : Bool} {m : Nat} {e : Int} : finValue neg m e = 0 ↔ m = 0 := by
  cases neg <;> simp [finValue, zpow_ne_zero]

theorem abs_finValue (neg : Bool) (m : Nat) (e : Int) : |finValue neg m e| = finValue false m e := by
  have h : 0 ≤ (m : ℚ) * 2 ^ e := by positivity
  cases neg <;> simp [finValue, abs_of_nonneg, h]

theorem finValue_neg_iff {neg : Bool} {m : Nat} (hm : m ≠ 0) (e : Int) : decide (finValue neg m e < 0) = neg := by
  have h : 0 < (m : ℚ) * 2 ^ e := by positivity
  cases neg <;> simp [finValue, h, h.le]

theorem finValue_mul (n1 n2 : Bool) (m1 m2 : Nat) (e1 e2 : Int) :
    finValue n1 m1 e1 * finValue n2 m2 e2 = finValue (n1 != n2) (m1 * m2) (e1 + e2) := by
  have hp : (2 : ℚ) ^ (e1 + e2) = 2 ^ e1 * 2 ^ e2 := zpow_add₀ (by norm_num) ..
  cases n1 <;> cases n2 <;> simp [finValue, hp] <;> ring

/-- A number as a whole multiple of a smaller power of two. -/
theorem finValue_eq_signedInt (neg : Bool) (m : Nat) {e e' : Int} (h : e' ≤ e) :
    finValue neg m e = signedInt neg m (e - e').toNat * (2 : ℚ) ^ e' := by
  have hp : (2 : ℚ) ^ e = 2 ^ (e - e').toNat * 2 ^ e' := by
    rw [← zpow_natCast, ← zpow_add₀ (by norm_num)]
    congr 1
    omega
  cases neg <;> simp [finValue, signedInt, hp] <;> ring

/-- A whole multiple of a power of two, by sign and magnitude. -/
theorem finValue_intCast (v e : Int) : finValue (decide (v < 0)) v.natAbs e = v * (2 : ℚ) ^ e := by
  obtain h | h := lt_or_ge v 0
  · simp [finValue, h, Nat.cast_natAbs, abs_of_neg]
  · simp [finValue, h, Nat.cast_natAbs, abs_of_nonneg]

theorem roundFinite_finValue {f : FpFmt} (hf : 0 < f.fracBits) (he : 0 < f.expBits) {m : Nat} (hm : m ≠ 0)
    (rnd : Config.Rnd) (neg : Bool) (e : Int) :
    CorrectlyRounded f rnd (finValue neg m e) (roundFinite f rnd neg m e) := by
  have h := roundFinite_correctlyRounded he hm (abs_finValue neg m e ▸ roundsAs_finValue hf hm e) rnd
  rwa [finValue_neg_iff hm] at h

/-- The exact sum in units of the smaller exponent's power of two. -/
def sumInt (n1 : Bool) (m1 : Nat) (e1 : Int) (n2 : Bool) (m2 : Nat) (e2 : Int) : Int :=
  signedInt n1 m1 (e1 - min e1 e2).toNat + signedInt n2 m2 (e2 - min e1 e2).toNat

section Sums

variable (f : FpFmt) (rnd : Config.Rnd) (n1 n2 : Bool) (m1 m2 : Nat) (e1 e2 : Int)

theorem addFinite_of_sumInt_eq_zero (h : sumInt n1 m1 e1 n2 m2 e2 = 0) :
    addFinite f rnd n1 m1 e1 n2 m2 e2 = fpZero (if n1 = n2 then n1 else rnd == .rm) :=
  if_pos h

theorem addFinite_of_sumInt_ne_zero (h : sumInt n1 m1 e1 n2 m2 e2 ≠ 0) :
    addFinite f rnd n1 m1 e1 n2 m2 e2 =
      roundFinite f rnd (decide (sumInt n1 m1 e1 n2 m2 e2 < 0)) (sumInt n1 m1 e1 n2 m2 e2).natAbs (min e1 e2) :=
  if_neg h

theorem finValue_add :
    finValue n1 m1 e1 + finValue n2 m2 e2 = sumInt n1 m1 e1 n2 m2 e2 * (2 : ℚ) ^ min e1 e2 := by
  rw [finValue_eq_signedInt n1 m1 (min_le_left e1 e2), finValue_eq_signedInt n2 m2 (min_le_right e1 e2), sumInt]
  push_cast
  ring

theorem sumInt_eq_zero_iff :
    sumInt n1 m1 e1 n2 m2 e2 = 0 ↔ finValue n1 m1 e1 + finValue n2 m2 e2 = 0 := by
  rw [finValue_add, mul_eq_zero, Int.cast_eq_zero, or_iff_left (zpow_ne_zero _ (by norm_num))]

variable {f n1 n2 m1 m2 e1 e2}

theorem addFinite_correctlyRounded (hf : 0 < f.fracBits) (he : 0 < f.expBits)
    (h : finValue n1 m1 e1 + finValue n2 m2 e2 ≠ 0) :
    CorrectlyRounded f rnd (finValue n1 m1 e1 + finValue n2 m2 e2) (addFinite f rnd n1 m1 e1 n2 m2 e2) := by
  have hv := mt (sumInt_eq_zero_iff n1 n2 m1 m2 e1 e2).1 h
  rw [addFinite_of_sumInt_ne_zero f rnd n1 n2 m1 m2 e1 e2 hv, finValue_add, ← finValue_intCast]
  exact roundFinite_finValue hf he (Int.natAbs_ne_zero.2 hv) ..

end Sums

theorem fpMul_correctlyRounded {f : FpFmt} (hf : 0 < f.fracBits) (he : 0 < f.expBits) (rnd : Config.Rnd)
    {n1 n2 : Bool} {m1 m2 : Nat} {e1 e2 : Int} (h : finValue n1 m1 e1 * finValue n2 m2 e2 ≠ 0) :
    CorrectlyRounded f rnd (finValue n1 m1 e1 * finValue n2 m2 e2)
      (fpMul f rnd (.fin n1 m1 e1) (.fin n2 m2 e2)) := by
  rw [finValue_mul] at h ⊢
  have hm := mt finValue_eq_zero_iff.2 h
  have hmul : fpMul f rnd (.fin n1 m1 e1) (.fin n2 m2 e2) = roundFinite f rnd (n1 != n2) (m1 * m2) (e1 + e2) :=
    if_neg (mt Nat.mul_eq_zero.2 hm)
  rw [hmul]
  exact roundFinite_finValue hf he hm ..

/-- What both formats have: a fraction and an exponent. -/
theorem FpFmt.bits_pos {f : FpFmt} (h : f = .single ∨ f = .double) : 0 < f.fracBits ∧ 0 < f.expBits := by
  obtain rfl | rfl := h <;> decide

/-- Settles O28: a sum is one integer times a power of two, a product one number, each rounded once. -/
theorem sumsAndProductsCorrectlyRounded : Obligations.SumsAndProductsCorrectlyRounded := by
  rintro f rnd n1 m1 e1 n2 m2 e2 _ _ hfmt rfl rfl
  obtain ⟨hf, he⟩ := FpFmt.bits_pos hfmt
  have hsub : finValue n1 m1 e1 - finValue n2 m2 e2 = finValue n1 m1 e1 + finValue (!n2) m2 e2 := by
    rw [finValue_neg, sub_eq_add_neg]
  refine ⟨fun h => addFinite_correctlyRounded rnd hf he h, fun h => ?difference,
    fun h => fpMul_correctlyRounded hf he rnd h, fun hxy hn => ?zero⟩
  case difference =>
    rw [hsub] at h ⊢
    exact addFinite_correctlyRounded rnd hf he h
  case zero =>
    have hv := (sumInt_eq_zero_iff ..).2 (hsub.symm.trans (sub_eq_zero.2 hxy))
    refine (addFinite_of_sumInt_eq_zero f rnd n1 (!n2) m1 m2 e1 e2 hv).trans ?_
    subst hn
    cases n1 <;> cases rnd <;> rfl

/-! ### Quotients -/

section Sticky

variable {f : FpFmt} {m a : Nat} {e : Int}

/-- When `a` bits are lost, the number lies between its magnitude and the next in units of `2 ^ e`. -/
theorem between_of_lastExp (hm : m ≠ 0) (ha : lastExp f m e = e + a) :
    Between f (finValue false m e) (lowMag f m e) (2 ^ a) (m % 2 ^ a) ((2 : ℚ) ^ e) := by
  have hb := between_lowMag f hm e
  rw [ha, add_sub_cancel_left, Int.toNat_natCast, zpow_add₀ (by norm_num), zpow_natCast, mul_div_assoc,
    div_self (by positivity), mul_one] at hb
  simpa using hb

theorem roundMag_of_lastExp (ha : lastExp f m e = e + a) (rnd : Config.Rnd) (neg : Bool) :
    roundMag f rnd neg m e =
      (lowMag f m e + (roundsUp rnd neg (2 ^ a) (m % 2 ^ a) (m / 2 ^ a)).toNat, m % 2 ^ a != 0) := by
  rw [roundMag_eq, roundInt_eq, lowMag, ha, Nat.add_assoc]
  simp

theorem lowMag_mod_two (hf : 0 < f.fracBits) (ha : lastExp f m e = e + a) :
    lowMag f m e % 2 = m / 2 ^ a % 2 := by
  obtain ⟨n, hn⟩ := Nat.exists_eq_add_of_lt hf
  rw [lowMag, ha, hn, Nat.zero_add, Nat.pow_succ, ← Nat.mul_assoc, Nat.mul_add_mod_self_right]
  simp

end Sticky

/-- A number that lies `R` of `D` parts of the way through the two units around an odd `r`. -/
theorem Between.sticky {f : FpFmt} {x c : ℚ} {mag d r R D : Nat} (h : Between f x mag d r c) (hr : 0 < r)
    (hd : r + 1 ≤ d) (hR : R < D) : Between f (x + (2 * R / D - 1) * c) mag (d * D) ((r - 1) * D + 2 * R) (c / D) := by
  have hD : (0 : ℚ) < D := mod_cast Nat.zero_lt_of_lt hR
  refine ⟨div_pos h.step hD, ?excess, ?next, ?lt⟩
  case excess =>
    rw [h.excess]
    push_cast [Nat.cast_sub (show 1 ≤ r from hr)]
    field_simp
    ring
  case next =>
    rw [h.next]
    push_cast
    field_simp
  case lt =>
    obtain ⟨r, rfl⟩ := Nat.exists_eq_add_of_lt hr
    calc (0 + r + 1 - 1) * D + 2 * R < r * D + 2 * D := by simp; omega
      _ = (0 + r + 1 + 1) * D := by ring
      _ ≤ d * D := Nat.mul_le_mul_right D hd

/-- The sticky bit decides as the exact remainder does: no boundary lies within the two units around an odd `r` when
two bits or more are lost. -/
theorem roundsUp_sticky {rnd : Config.Rnd} {neg : Bool} {d r R D k : Nat} (hd : d % 4 = 0) (hr : r % 2 = 1) (hR0 : 0 < R)
    (hR : R < D) : roundsUp rnd neg (d * D) ((r - 1) * D + 2 * R) k = roundsUp rnd neg d r k := by
  cases rnd with
  | rz => rfl
  | rp | rm =>
    rw [roundsUp, roundsUp, show ((r - 1) * D + 2 * R != 0) = true by rw [bne_iff_ne]; omega,
      show (r != 0) = true by rw [bne_iff_ne]; omega]
  | rn =>
    obtain ⟨j, rfl⟩ := Nat.dvd_of_mod_eq_zero hd
    obtain ⟨i, rfl⟩ : ∃ i, r = 2 * i + 1 := ⟨r / 2, by omega⟩
    simp only [roundsUp, Nat.add_sub_cancel, Nat.mul_assoc]
    obtain hij | hij := Nat.lt_or_ge i j
    · have hprod : i * D + D ≤ j * D := Nat.succ_mul i D ▸ Nat.mul_le_mul_right D hij
      have hbelow : 2 * (2 * (i * D) + 2 * R) < 4 * (j * D) := by omega
      have hbelow' : 2 * (2 * i + 1) < 4 * j := by omega
      rw [decide_eq_false hbelow.not_gt, beq_eq_false_iff_ne.2 hbelow.ne, decide_eq_false hbelow'.not_gt,
        beq_eq_false_iff_ne.2 hbelow'.ne]
    · have hprod : j * D ≤ i * D := Nat.mul_le_mul_right D hij
      have habove : 4 * (j * D) < 2 * (2 * (i * D) + 2 * R) := by omega
      rw [decide_eq_true habove, decide_eq_true (by omega), Bool.true_or, Bool.true_or]

/-- Rounding with a sticky bit rounds any number strictly between the two even neighbours of `m`. -/
theorem roundsAs_sticky {f : FpFmt} (hf : 0 < f.fracBits) {m R D : Nat} (hodd : m % 2 = 1)
    (hm : 2 ^ (f.fracBits + 2) ≤ m) (hR0 : 0 < R) (hR : R < D) (e : Int) :
    RoundsAs f m e (finValue false m e + (2 * R / D - 1) * 2 ^ e) := by
  have hm0 : m ≠ 0 := by omega
  have hlog := (Nat.le_log2 hm0).2 hm
  obtain ⟨a, ha⟩ : ∃ a : Nat, lastExp f m e = e + (a + 2 : Nat) := by
    have hlead : leadExp m e = e + m.log2 := rfl
    have hlast : leadExp m e - f.fracBits ≤ lastExp f m e := le_max_left ..
    exact ⟨(lastExp f m e - e - 2).toNat, by omega⟩
  have hr : m % 2 ^ (a + 2) % 2 = 1 := by
    rw [Nat.mod_mod_of_dvd m (dvd_pow_self 2 (by omega)), hodd]
  have hd : 2 ^ (a + 2) % 4 = 0 := by rw [Nat.pow_add, Nat.mul_mod_left]
  have hb := (between_of_lastExp hm0 ha).sticky (by omega) (Nat.mod_lt _ (Nat.two_pow_pos _)) hR
  constructor
  case rounded =>
    intro rnd neg
    rw [roundMag_of_lastExp ha, ← roundsUp_sticky hd hr hR0 hR]
    exact hb.isRounded rnd neg (lowMag_mod_two hf ha)
  case inexact =>
    intro rnd neg
    rw [roundMag_of_lastExp ha, ← roundsUp_sticky hd hr hR0 hR]
    exact iff_of_true (bne_iff_ne.2 (by omega)) ((hb.inexact_iff rnd neg _).1 (by omega))
  case lt =>
    have hRD : (2 * R / D - 1 : ℚ) < 1 := by
      have hcast : (R : ℚ) < D := mod_cast hR
      have hD : (0 : ℚ) < D := mod_cast hR0.trans hR
      rw [sub_lt_iff_lt_add, div_lt_iff₀ hD]
      linarith
    calc finValue false m e + (2 * R / D - 1) * 2 ^ e < finValue false m e + 1 * 2 ^ e := by gcongr
      _ = (m + 1 : Nat) * 2 ^ e := by simp [finValue]; ring
      _ ≤ (2 : ℚ) ^ (leadExp m e + 1) := lt_leadExp Nat.lt_log2_self

/-- A quotient by quotient bits and what they leave over. -/
theorem finValue_div_eq {m2 : Nat} (hm2 : m2 ≠ 0) (m1 : Nat) (e1 e2 : Int) (sh : Nat) :
    finValue false m1 e1 / finValue false m2 e2 =
      (2 * (m1 * 2 ^ sh / m2 : Nat) + 2 * (m1 * 2 ^ sh % m2 : Nat) / m2) * (2 : ℚ) ^ (e1 - e2 - sh - 1) := by
  have hdiv : (m2 * (m1 * 2 ^ sh / m2 : Nat) + (m1 * 2 ^ sh % m2 : Nat) : ℚ) = m1 * 2 ^ sh :=
    mod_cast Nat.div_add_mod (m1 * 2 ^ sh) m2
  have hm2' : (m2 : ℚ) ≠ 0 := mod_cast hm2
  have hexp : (2 : ℚ) ^ (e1 - e2 - sh - 1) = 2 ^ e1 / 2 ^ e2 / 2 ^ sh / 2 := by
    rw [zpow_sub₀ (by norm_num), zpow_sub₀ (by norm_num), zpow_sub₀ (by norm_num), zpow_natCast, zpow_one]
  have hsum : (2 * (m1 * 2 ^ sh / m2 : Nat) + 2 * (m1 * 2 ^ sh % m2 : Nat) / m2 : ℚ) = 2 * (m1 * 2 ^ sh) / m2 := by
    rw [← hdiv]
    field_simp
  rw [hexp, hsum]
  simp [finValue]
  field_simp

/-- The quotient bits are enough for one rounding. -/
theorem two_pow_le_quotient {m1 m2 : Nat} (hm1 : m1 ≠ 0) (hm2 : m2 ≠ 0) (n : Nat) :
    2 ^ n ≤ m1 * 2 ^ (n + 1 + m2.log2) / m2 := by
  rw [Nat.le_div_iff_mul_le (Nat.pos_of_ne_zero hm2)]
  calc 2 ^ n * m2 ≤ 2 ^ n * 2 ^ (m2.log2 + 1) := Nat.mul_le_mul_left _ Nat.lt_log2_self.le
    _ = 1 * 2 ^ (n + 1 + m2.log2) := by rw [← Nat.pow_add]; ring
    _ ≤ m1 * 2 ^ (n + 1 + m2.log2) := Nat.mul_le_mul_right _ (Nat.pos_of_ne_zero hm1)

/-- The number that `divFinite` rounds: quotient bits and the sticky bit. -/
def stickyQuotient (m1 m2 sh : Nat) : Nat := 2 * (m1 * 2 ^ sh / m2) + if m1 * 2 ^ sh % m2 = 0 then 0 else 1

theorem divFinite_eq (f : FpFmt) (rnd : Config.Rnd) (neg : Bool) (m1 : Nat) (e1 : Int) (m2 : Nat) (e2 : Int) :
    divFinite f rnd neg m1 e1 m2 e2 =
      roundFinite f rnd neg (stickyQuotient m1 m2 (f.fracBits + 3 + m2.log2))
        (e1 - e2 - (f.fracBits + 3 + m2.log2 : Nat) - 1) := rfl

/-- Rounding it rounds the quotient. -/
theorem roundsAs_quotient {f : FpFmt} (hf : 0 < f.fracBits) {m1 m2 : Nat} (hm1 : m1 ≠ 0) (hm2 : m2 ≠ 0) (e1 e2 : Int) :
    RoundsAs f (stickyQuotient m1 m2 (f.fracBits + 3 + m2.log2)) (e1 - e2 - (f.fracBits + 3 + m2.log2 : Nat) - 1)
      (finValue false m1 e1 / finValue false m2 e2) := by
  have hq := two_pow_le_quotient hm1 hm2 (f.fracBits + 2)
  have hpos := Nat.two_pow_pos (f.fracBits + 2)
  rw [show f.fracBits + 2 + 1 + m2.log2 = f.fracBits + 3 + m2.log2 by omega] at hq
  rw [finValue_div_eq hm2 m1 e1 e2 (f.fracBits + 3 + m2.log2), stickyQuotient]
  generalize f.fracBits + 3 + m2.log2 = sh at *
  split
  case isTrue hrem =>
    have h := roundsAs_finValue hf (m := 2 * (m1 * 2 ^ sh / m2)) (by omega) (e1 - e2 - sh - 1)
    rw [hrem]
    simpa [finValue] using h
  case isFalse hrem =>
    have h := roundsAs_sticky hf (m := 2 * (m1 * 2 ^ sh / m2) + 1) (by omega) (by omega) (Nat.pos_of_ne_zero hrem)
      (Nat.mod_lt _ (Nat.pos_of_ne_zero hm2)) (e1 - e2 - sh - 1)
    convert h using 1
    simp [finValue]
    ring

theorem stickyQuotient_ne_zero {m1 m2 : Nat} (hm1 : m1 ≠ 0) (hm2 : m2 ≠ 0) (n : Nat) :
    stickyQuotient m1 m2 (n + 1 + m2.log2) ≠ 0 := by
  have hq := two_pow_le_quotient hm1 hm2 n
  have hpos := Nat.two_pow_pos n
  unfold stickyQuotient
  omega

theorem finValue_div_neg_iff {n1 n2 : Bool} {m1 m2 : Nat} (hm1 : m1 ≠ 0) (hm2 : m2 ≠ 0) (e1 e2 : Int) :
    decide (finValue n1 m1 e1 / finValue n2 m2 e2 < 0) = (n1 != n2) := by
  have hpos {m : Nat} (hm : m ≠ 0) (e : Int) : 0 < finValue false m e := by
    have : (0 : ℚ) < m * 2 ^ e := by positivity
    simpa [finValue] using this
  have hdiv := div_pos (hpos hm1 e1) (hpos hm2 e2)
  have htrue (m : Nat) (e : Int) : finValue true m e = -finValue false m e := finValue_neg false m e
  cases n1 <;> cases n2 <;> simp [htrue, neg_div, div_neg, hdiv, hdiv.le]

/-- Settles O29: the sticky bit decides every rounding as the exact quotient does. -/
theorem quotientsCorrectlyRounded : Obligations.QuotientsCorrectlyRounded := by
  intro f rnd n1 m1 e1 n2 m2 e2 hfmt hm1 hm2
  obtain ⟨hf, he⟩ := FpFmt.bits_pos hfmt
  have hdiv : fpDiv f rnd (.fin n1 m1 e1) (.fin n2 m2 e2) = divFinite f rnd (n1 != n2) m1 e1 m2 e2 :=
    (if_neg hm2).trans (if_neg hm1)
  have habs : |finValue n1 m1 e1 / finValue n2 m2 e2| = finValue false m1 e1 / finValue false m2 e2 := by
    rw [abs_div, abs_finValue, abs_finValue]
  rw [hdiv, divFinite_eq, ← finValue_div_neg_iff hm1 hm2 e1 e2]
  exact roundFinite_correctlyRounded he (stickyQuotient_ne_zero hm1 hm2 (f.fracBits + 2))
    (habs ▸ roundsAs_quotient hf hm1 hm2 e1 e2) rnd

end Sys2Proof.Machine

/-! SUPPORT. Special operands: the class of an operand's bits against the value they unpack to, the operations on the
classes, and the bits of NaN, infinite and zero results (spec/42_arithmetic.md R263, log 13, log 29). -/

namespace Sys2Proof.Machine

/-! ### The class of an operand and its value -/

/-- The value is of the class. -/
def FpClass.Describes (x : FpClass) : FpVal → Prop
  | .nan signalling => x.nan ∧ ¬x.inf ∧ (signalling = true ↔ x.signalling)
  | .inf neg => ¬x.nan ∧ x.inf ∧ ¬x.signalling ∧ x.neg = neg
  | .fin neg m _ => ¬x.nan ∧ ¬x.inf ∧ ¬x.signalling ∧ x.neg = neg ∧ (x.zero ↔ m = 0)

/-- The value is a signalling NaN. -/
def FpVal.signalling : FpVal → Bool
  | .nan signalling => signalling
  | .inf _ | .fin _ _ _ => false

namespace FpClass.Describes

variable {x : FpClass} {u : FpVal}

theorem eq_nan (h : x.Describes u) (hx : x.nan) : u = .nan u.signalling := by
  cases u with
  | nan => rfl
  | inf | fin => exact absurd hx h.1

theorem eq_inf (h : x.Describes u) (hx : x.inf) : u = .inf x.neg := by
  cases u with
  | nan | fin => exact absurd hx h.2.1
  | inf neg =>
    obtain ⟨_, _, _, hneg⟩ := h
    rw [hneg]

theorem eq_fin (h : x.Describes u) (hx : x.finite) : ∃ m e, u = .fin x.neg m e ∧ (x.zero ↔ m = 0) := by
  cases u with
  | nan => exact absurd h.1 hx.1
  | inf => exact absurd h.2.1 hx.2
  | fin neg m e =>
    obtain ⟨_, _, _, hneg, hzero⟩ := h
    exact ⟨m, e, by rw [hneg], hzero⟩

theorem signalling_iff (h : x.Describes u) : u.signalling = true ↔ x.signalling := by
  cases u with
  | nan =>
    obtain ⟨_, _, hsig⟩ := h
    exact hsig
  | inf =>
    obtain ⟨_, _, hsig, _⟩ := h
    exact iff_of_false Bool.false_ne_true hsig
  | fin =>
    obtain ⟨_, _, hsig, _⟩ := h
    exact iff_of_false Bool.false_ne_true hsig

end FpClass.Describes

/-! ### Unpacking -/

/-- The exponent field. -/
def expField (f : FpFmt) (x : Nat) : Nat := x / 2 ^ f.fracBits % 2 ^ f.expBits
/-- The fraction field. -/
def fracField (f : FpFmt) (x : Nat) : Nat := x % 2 ^ f.fracBits
/-- The sign bit. -/
def signField (f : FpFmt) (x : Nat) : Bool := x / 2 ^ (f.expBits + f.fracBits) % 2 == 1

/-- The value by its three fields. -/
def valueOfFields (f : FpFmt) (neg : Bool) (e frac : Nat) : FpVal :=
  if e = f.expMax then
    if frac = 0 then .inf neg else .nan (decide (frac < 2 ^ (f.fracBits - 1)))
  else if e = 0 then .fin neg frac f.ulpMin
  else .fin neg (2 ^ f.fracBits + frac) (f.ulpMin + e - 1)

theorem unpack_eq (f : FpFmt) (x : Nat) :
    unpack f x = valueOfFields f (signField f x) (expField f x) (fracField f x) := rfl

/-- A class read off the fields describes the value. -/
theorem describes_valueOfFields {f : FpFmt} {x : FpClass} {e frac : Nat} (hnan : x.nan ↔ e = f.expMax ∧ frac ≠ 0)
    (hsig : x.signalling ↔ x.nan ∧ frac < 2 ^ (f.fracBits - 1)) (hinf : x.inf ↔ e = f.expMax ∧ frac = 0)
    (hzero : x.zero ↔ e = 0 ∧ frac = 0) : x.Describes (valueOfFields f x.neg e frac) := by
  have hpos := Nat.two_pow_pos f.fracBits
  unfold valueOfFields
  split_ifs with hmax hfrac hsub
  · exact ⟨by simp [hnan, hfrac], hinf.2 ⟨hmax, hfrac⟩, by simp [hsig, hnan, hfrac], rfl⟩
  · exact ⟨hnan.2 ⟨hmax, hfrac⟩, by simp [hinf, hfrac], by simp [hsig, hnan, hmax, hfrac]⟩
  · exact ⟨by simp [hnan, hmax], by simp [hinf, hmax], by simp [hsig, hnan, hmax], rfl, by simp [hzero, hsub]⟩
  · exact ⟨by simp [hnan, hmax], by simp [hinf, hmax], by simp [hsig, hnan, hmax], rfl, by simp [hzero, hsub]⟩

theorem getLsbD_eq_decide {n : Nat} (x : BitVec n) (k : Nat) : x.getLsbD k = decide (x.toNat / 2 ^ k % 2 = 1) :=
  Nat.testBit_eq_decide_div_mod_eq

theorem describes_unpack32 (x : Word) : (class32 x).Describes (unpack .single x.toNat) := by
  have hneg : signField .single x.toNat = (class32 x).neg :=
    (getLsbD_eq_decide x 31).symm.trans (BitVec.msb_eq_getLsbD_last x).symm
  have hexp (k : Nat) (hk : k < 2 ^ 8) : x.extractLsb' 23 8 = BitVec.ofNat 8 k ↔ expField .single x.toNat = k := by
    rw [← BitVec.toNat_inj, BitVec.extractLsb'_toNat, Nat.shiftRight_eq_div_pow, BitVec.toNat_ofNat, Nat.mod_eq_of_lt hk]
    rfl
  have hfrac : x.extractLsb' 0 23 = 0#23 ↔ fracField .single x.toNat = 0 := by
    rw [← BitVec.toNat_inj, BitVec.extractLsb'_toNat]
    rfl
  rw [unpack_eq, hneg]
  apply describes_valueOfFields
  case hnan => exact and_congr (hexp _ (by decide)) (not_congr hfrac)
  case hinf => exact and_congr (hexp _ (by decide)) hfrac
  case hsig =>
    refine and_congr_right fun _ => ?_
    rw [getLsbD_eq_decide, decide_eq_false_iff_not]
    change _ ↔ x.toNat % 2 ^ 23 < 2 ^ 22
    omega
  case hzero =>
    change x.extractLsb' 0 31 = 0#31 ↔ x.toNat / 2 ^ 23 % 2 ^ 8 = 0 ∧ x.toNat % 2 ^ 23 = 0
    rw [← BitVec.toNat_inj, BitVec.extractLsb'_toNat, Nat.shiftRight_zero, BitVec.toNat_ofNat, Nat.zero_mod]
    omega

theorem describes_unpack64 (x : Long) : (class64 x).Describes (unpack .double x.toNat) := by
  have hneg : signField .double x.toNat = (class64 x).neg :=
    (getLsbD_eq_decide x 63).symm.trans (BitVec.msb_eq_getLsbD_last x).symm
  have hexp (k : Nat) (hk : k < 2 ^ 11) : x.extractLsb' 52 11 = BitVec.ofNat 11 k ↔ expField .double x.toNat = k := by
    rw [← BitVec.toNat_inj, BitVec.extractLsb'_toNat, Nat.shiftRight_eq_div_pow, BitVec.toNat_ofNat, Nat.mod_eq_of_lt hk]
    rfl
  have hfrac : x.extractLsb' 0 52 = 0#52 ↔ fracField .double x.toNat = 0 := by
    rw [← BitVec.toNat_inj, BitVec.extractLsb'_toNat]
    rfl
  rw [unpack_eq, hneg]
  apply describes_valueOfFields
  case hnan => exact and_congr (hexp _ (by decide)) (not_congr hfrac)
  case hinf => exact and_congr (hexp _ (by decide)) hfrac
  case hsig =>
    refine and_congr_right fun _ => ?_
    rw [getLsbD_eq_decide, decide_eq_false_iff_not]
    change _ ↔ x.toNat % 2 ^ 52 < 2 ^ 51
    omega
  case hzero =>
    change x.extractLsb' 0 63 = 0#63 ↔ x.toNat / 2 ^ 52 % 2 ^ 11 = 0 ∧ x.toNat % 2 ^ 52 = 0
    rw [← BitVec.toNat_inj, BitVec.extractLsb'_toNat, Nat.shiftRight_zero, BitVec.toNat_ofNat, Nat.zero_mod]
    omega

/-! ### Numbers and their negations -/

/-- The other sign bit gives the other sign. -/
theorem unpack_xor_sign (f : FpFmt) (x : Nat) :
    unpack f (x ^^^ 2 ^ (f.expBits + f.fracBits)) = (unpack f x).negate := by
  have hexp : expField f (x ^^^ 2 ^ (f.expBits + f.fracBits)) = expField f x := by
    refine Nat.eq_of_testBit_eq fun k => ?_
    simp only [expField, Nat.testBit_mod_two_pow, Nat.testBit_div_two_pow, Nat.testBit_xor, Nat.testBit_two_pow]
    by_cases hk : k < f.expBits
    · rw [decide_eq_false (by omega : ¬f.expBits + f.fracBits = k + f.fracBits), Bool.xor_false]
    · rw [decide_eq_false hk, Bool.false_and, Bool.false_and]
  have hfrac : fracField f (x ^^^ 2 ^ (f.expBits + f.fracBits)) = fracField f x := by
    refine Nat.eq_of_testBit_eq fun k => ?_
    simp only [fracField, Nat.testBit_mod_two_pow, Nat.testBit_xor, Nat.testBit_two_pow]
    by_cases hk : k < f.fracBits
    · rw [decide_eq_false (by omega : ¬f.expBits + f.fracBits = k), Bool.xor_false]
    · rw [decide_eq_false hk, Bool.false_and, Bool.false_and]
  have hsign : signField f (x ^^^ 2 ^ (f.expBits + f.fracBits)) = !signField f x := by
    have hbit (y : Nat) : signField f y = y.testBit (f.expBits + f.fracBits) :=
      Nat.testBit_eq_decide_div_mod_eq.symm
    rw [hbit, hbit, Nat.testBit_xor, Nat.testBit_two_pow_self, Bool.xor_true]
  rw [unpack_eq, unpack_eq, hexp, hfrac, hsign]
  unfold valueOfFields
  split_ifs <;> rfl

/-- A number and its negation add to the zero of the rounding mode. -/
theorem addFinite_opposite (f : FpFmt) (rnd : Config.Rnd) (neg : Bool) (m : Nat) (e : Int) :
    addFinite f rnd neg m e (!neg) m e = fpZero (decide (rnd = .rm)) := by
  have hsum : sumInt neg m e (!neg) m e = 0 := by
    rw [sumInt_eq_zero_iff, finValue_neg, add_neg_cancel]
  rw [addFinite_of_sumInt_eq_zero _ _ _ _ _ _ _ _ hsum, if_neg (by cases neg <;> decide)]
  rfl

/-- Zeros of one sign add to that zero. -/
theorem addFinite_zeros (f : FpFmt) (rnd : Config.Rnd) (neg : Bool) (e : Int) :
    addFinite f rnd neg 0 e neg 0 e = fpZero neg := by
  have hsum : sumInt neg 0 e neg 0 e = 0 := by
    rw [sumInt_eq_zero_iff, finValue_eq_zero_iff.2 rfl, add_zero]
  rw [addFinite_of_sumInt_eq_zero _ _ _ _ _ _ _ _ hsum, if_pos rfl]

theorem FpVal.negate_negate (u : FpVal) : u.negate.negate = u := by
  cases u <;> simp [FpVal.negate]

/-! ### The operations on the classes -/

/-- What the outcome of an operation is to an instruction of one format. -/
structure OutcomeRules (f : FpFmt) (gives : Instr → FpuOut → Prop) (givesNan : Instr → Prop → Prop)
    (givesInf : Instr → Bool → Bool → Prop) (givesZero : Instr → Bool → Prop) : Prop where
  nan : ∀ {i sig}, gives i (fpNan sig) → ∀ {invalid : Prop}, (sig = true ↔ invalid) → givesNan i invalid
  inf : ∀ {i neg byZero}, gives i ⟨.num neg f.infMag, { divZero := byZero }⟩ → givesInf i neg byZero
  zero : ∀ {i neg}, gives i (fpZero neg) → givesZero i neg

/-- The four instructions give the four operations on the values `u` and `v`. -/
structure FourOperations (f : FpFmt) (rnd : Config.Rnd) (u v : FpVal) (gives : Instr → FpuOut → Prop)
    (add sub mult div : Instr) : Prop where
  add : gives add (fpAdd f rnd u v)
  sub : gives sub (fpSub f rnd u v)
  mult : gives mult (fpMul f rnd u v)
  div : gives div (fpDiv f rnd u v)

namespace FourOperations

variable {f : FpFmt} {rnd : Config.Rnd} {u v : FpVal} {gives : Instr → FpuOut → Prop} {add sub mult div : Instr}
  {out : FpuOut}

theorem add_eq (ops : FourOperations f rnd u v gives add sub mult div) (h : fpAdd f rnd u v = out) : gives add out :=
  h ▸ ops.add

theorem sub_eq (ops : FourOperations f rnd u v gives add sub mult div) (h : fpSub f rnd u v = out) : gives sub out :=
  h ▸ ops.sub

theorem mult_eq (ops : FourOperations f rnd u v gives add sub mult div) (h : fpMul f rnd u v = out) : gives mult out :=
  h ▸ ops.mult

theorem div_eq (ops : FourOperations f rnd u v gives add sub mult div) (h : fpDiv f rnd u v = out) : gives div out :=
  h ▸ ops.div

end FourOperations

/-- A NaN operand gives a NaN, invalid if an operand is signalling. -/
theorem fp_nan (f : FpFmt) (rnd : Config.Rnd) {u v : FpVal} (h : u = .nan u.signalling ∨ v = .nan v.signalling) :
    fpAdd f rnd u v = fpNan (u.signalling || v.signalling) ∧ fpSub f rnd u v = fpNan (u.signalling || v.signalling)
      ∧ fpMul f rnd u v = fpNan (u.signalling || v.signalling)
      ∧ fpDiv f rnd u v = fpNan (u.signalling || v.signalling) := by
  obtain h | h := h
  · rw [h]
    cases v <;> simp [fpSub, fpAdd, fpMul, fpDiv, FpVal.negate, FpVal.signalling]
  · rw [h]
    cases u <;> simp [fpSub, fpAdd, fpMul, fpDiv, FpVal.negate, FpVal.signalling]

section Rules

variable {f : FpFmt} {rnd : Config.Rnd} {u v : FpVal} {gives : Instr → FpuOut → Prop} {add sub mult div : Instr}
  {givesNan : Instr → Prop → Prop} {givesInf : Instr → Bool → Bool → Prop} {givesZero : Instr → Bool → Prop}
  {x y : FpClass} {same opposite : Prop}

/-- The rules for special operands hold of instructions that give the four operations. -/
theorem specialOperands_of_fourOperations (out : OutcomeRules f gives givesNan givesInf givesZero)
    (ops : FourOperations f rnd u v gives add sub mult div) (hx : x.Describes u) (hy : y.Describes v)
    (hsame : same → v = u) (hopposite : opposite → v = u.negate) :
    SpecialOperands add sub mult div x y same opposite (decide (rnd = .rm)) givesNan givesInf givesZero := by
  have invalid : true = true ↔ True := iff_of_true rfl trivial
  refine ⟨?nan, ?infInf, ?infFin, ?finInf, ?finFin⟩
  case nan =>
    intro h i hi
    have hsig : (u.signalling || v.signalling) = true ↔ x.signalling ∨ y.signalling := by
      rw [Bool.or_eq_true, hx.signalling_iff, hy.signalling_iff]
    obtain ⟨hadd, hsub, hmul, hdiv⟩ := fp_nan f rnd (h.imp hx.eq_nan hy.eq_nan)
    obtain rfl | rfl | rfl | rfl := hi
    · exact out.nan (ops.add_eq hadd) hsig
    · exact out.nan (ops.sub_eq hsub) hsig
    · exact out.nan (ops.mult_eq hmul) hsig
    · exact out.nan (ops.div_eq hdiv) hsig
  case infInf =>
    intro hxi hyi
    obtain rfl := hx.eq_inf hxi
    obtain rfl := hy.eq_inf hyi
    refine ⟨out.inf ops.mult, out.nan ops.div invalid, fun hsign => ?equal, fun hsign => ?different⟩
    case equal =>
      have heq : x.neg = y.neg := by simpa using hsign
      exact ⟨out.inf (ops.add_eq (if_pos heq)), out.nan (ops.sub_eq (if_neg (heq ▸ Bool.self_ne_not _))) invalid⟩
    case different =>
      have hne : x.neg ≠ y.neg := by simpa using hsign
      exact ⟨out.nan (ops.add_eq (if_neg hne)) invalid, out.inf (ops.sub_eq (if_pos (Bool.eq_not.2 hne)))⟩
  case infFin =>
    intro hxi hyf
    obtain rfl := hx.eq_inf hxi
    obtain ⟨m, e, rfl, hm⟩ := hy.eq_fin hyf
    exact ⟨out.inf ops.add, out.inf ops.sub, out.inf ops.div,
      fun hz => out.nan (ops.mult_eq (if_pos (hm.1 hz))) invalid,
      fun hz => out.inf (ops.mult_eq (if_neg (mt hm.2 hz)))⟩
  case finInf =>
    intro hxf hyi
    obtain ⟨m, e, rfl, hm⟩ := hx.eq_fin hxf
    obtain rfl := hy.eq_inf hyi
    exact ⟨out.inf ops.add, out.inf ops.sub, out.zero ops.div,
      fun hz => out.nan (ops.mult_eq (if_pos (hm.1 hz))) invalid,
      fun hz => out.inf (ops.mult_eq (if_neg (mt hm.2 hz)))⟩
  case finFin =>
    intro hxf hyf
    obtain ⟨m, e, rfl, hm⟩ := hx.eq_fin hxf
    refine ⟨?mult, ?zeroZero, ?zeroNum, ?numZero, ?oppositeSum, ?sameDifference, ?zeroSum, ?zeroDifference⟩
    case oppositeSum =>
      intro h
      obtain rfl := hopposite h
      exact out.zero (ops.add_eq (addFinite_opposite ..))
    case sameDifference =>
      intro h
      obtain rfl := hsame h
      exact out.zero (ops.sub_eq (addFinite_opposite ..))
    case zeroSum =>
      intro hz h
      obtain rfl := hm.1 hz
      obtain rfl := hsame h
      exact out.zero (ops.add_eq (addFinite_zeros ..))
    case zeroDifference =>
      intro hz h
      obtain rfl := hm.1 hz
      obtain rfl := hopposite h
      refine out.zero (ops.sub_eq ?_)
      rw [fpSub, FpVal.negate_negate]
      exact addFinite_zeros ..
    all_goals obtain ⟨m', e', rfl, hm'⟩ := hy.eq_fin hyf
    case mult => exact fun hz => out.zero (ops.mult_eq (if_pos (hz.imp hm.1 hm'.1)))
    case zeroZero =>
      exact fun hz hz' => out.nan (ops.div_eq ((if_pos (hm'.1 hz')).trans (if_pos (hm.1 hz)))) invalid
    case zeroNum =>
      exact fun hz hz' => out.zero (ops.div_eq ((if_neg (mt hm'.2 hz')).trans (if_pos (hm.1 hz))))
    case numZero =>
      exact fun hz hz' => out.inf (ops.div_eq ((if_pos (hm'.1 hz')).trans (if_neg (mt hm.2 hz))))

end Rules

/-! ### The bits of special results -/

theorem quietNan32_bits (k : Nat) :
    (quietNan32 k).extractLsb' 23 8 = 0xFF#8 ∧ (quietNan32 k).getLsbD 22 = true := by
  constructor
  · simp (disch := omega) only [quietNan32, extract_append_low, extract_append_high, extract_all, Nat.reduceSub]
  · simp only [quietNan32, BitVec.getLsbD_append]
    rfl

theorem quietNan64_bits (k : Nat) :
    (quietNan64 k).extractLsb' 52 11 = 0x7FF#11 ∧ (quietNan64 k).getLsbD 51 = true := by
  constructor
  · simp (disch := omega) only [quietNan64, extract_append_low, extract_append_high, extract_all, Nat.reduceSub]
  · simp only [quietNan64, BitVec.getLsbD_append]
    rfl

/-- A field with a set bit is not zero. -/
theorem extractLsb'_ne_zero_of_getLsbD {n : Nat} {x : BitVec n} {k len : Nat} (hk : k < len)
    (h : x.getLsbD k = true) : x.extractLsb' 0 len ≠ 0#len := by
  intro hzero
  have hbit := congrArg (·.getLsbD k) hzero
  simp [hk, h] at hbit

theorem isNan32_quietNan32 (k : Nat) : IsNan32 (quietNan32 k) :=
  ⟨(quietNan32_bits k).1, extractLsb'_ne_zero_of_getLsbD (by decide) (quietNan32_bits k).2⟩

theorem isNan64_quietNan64 (k : Nat) : IsNan64 (quietNan64 k) :=
  ⟨(quietNan64_bits k).1, extractLsb'_ne_zero_of_getLsbD (by decide) (quietNan64_bits k).2⟩

theorem inf_bits32 (neg : Bool) (k : Nat) :
    (FpRes.num neg FpFmt.single.infMag).bits32 k = BitVec.ofBool neg ++ 0xFF#8 ++ 0#23 := by
  cases neg <;> rfl

theorem inf_bits64 (neg : Bool) (k : Nat) :
    (FpRes.num neg FpFmt.double.infMag).bits64 k = BitVec.ofBool neg ++ 0x7FF#11 ++ 0#52 := by
  cases neg <;> rfl

theorem zero_bits32 (neg : Bool) (k : Nat) : (FpRes.num neg 0).bits32 k = BitVec.ofBool neg ++ 0#31 := by
  cases neg <;> rfl

theorem zero_bits64 (neg : Bool) (k : Nat) : (FpRes.num neg 0).bits64 k = BitVec.ofBool neg ++ 0#63 := by
  cases neg <;> rfl

/-- The bits and their classes decide a register with its flags (spec/10_state.md R31). -/
theorem FlagsF.fpr_eq {g : Fpr} {x : Word} (h : FlagsF g x) (hval : g.val = x) {nan inf zero : Bool}
    (hnan : IsNan32 x ↔ nan = true) (hinf : IsInf32 x ↔ inf = true) (hzero : IsZero32 x ↔ zero = true) :
    g = ⟨x, !nan, inf, zero⟩ := by
  obtain ⟨ha, hi, hz⟩ := h
  have ha' : g.a = !nan := by rw [Bool.eq_iff_iff, ha, hnan, Bool.not_eq_true, Bool.not_eq_true']
  rw [← hval, ← ha', ← Bool.eq_iff_iff.2 (hi.trans hinf), ← Bool.eq_iff_iff.2 (hz.trans hzero)]

theorem classes_inf32 (neg : Bool) :
    ¬IsNan32 (BitVec.ofBool neg ++ 0xFF#8 ++ 0#23) ∧ IsInf32 (BitVec.ofBool neg ++ 0xFF#8 ++ 0#23)
      ∧ ¬IsZero32 (BitVec.ofBool neg ++ 0xFF#8 ++ 0#23) := by
  unfold IsNan32 IsInf32 IsZero32
  revert neg
  decide

theorem classes_zero32 (neg : Bool) :
    ¬IsNan32 (BitVec.ofBool neg ++ 0#31) ∧ ¬IsInf32 (BitVec.ofBool neg ++ 0#31)
      ∧ IsZero32 (BitVec.ofBool neg ++ 0#31) := by
  unfold IsNan32 IsInf32 IsZero32
  revert neg
  decide

/-- The outcomes of the instructions in `.f`. -/
theorem outcomeRules_single (s : State) (d : RegNum) :
    OutcomeRules .single (fun i out => CompletesFpuF i s d out) (GivesNanF s d) (GivesInfF s d) (GivesZeroF s d) where
  nan := by
    rintro i sig ⟨t, ht, _, _, hval, ⟨ha, _, _⟩, hcauses⟩ invalid hsig
    change t.freg d = quietNan32 s.drawn at hval
    rw [hval] at ha
    refine ⟨t, sig, ht, hval ▸ isNan32_quietNan32 _, hval ▸ (quietNan32_bits _).2, ?_, hsig, hcauses⟩
    exact Bool.eq_false_iff.2 (mt ha.1 (not_not.2 (isNan32_quietNan32 _)))
  inf := by
    rintro i neg byZero ⟨t, ht, _, _, hval, hflags, hcauses⟩
    rw [inf_bits32] at hval
    obtain ⟨hnan, hinf, hzero⟩ := classes_inf32 neg
    rw [hval] at hflags
    exact ⟨t, ht, hflags.fpr_eq hval (iff_of_false hnan Bool.false_ne_true) (iff_of_true hinf rfl)
      (iff_of_false hzero Bool.false_ne_true), hcauses⟩
  zero := by
    rintro i neg ⟨t, ht, _, _, hval, hflags, hcauses⟩
    change t.freg d = (FpRes.num neg 0).bits32 s.drawn at hval
    rw [zero_bits32] at hval
    obtain ⟨hnan, hinf, hzero⟩ := classes_zero32 neg
    rw [hval] at hflags
    exact ⟨t, ht, hflags.fpr_eq hval (iff_of_false hnan Bool.false_ne_true) (iff_of_false hinf Bool.false_ne_true)
      (iff_of_true hzero rfl), hcauses⟩

/-- The outcomes of the instructions in `.d`. -/
theorem outcomeRules_double (s : State) (d : RegNum) :
    OutcomeRules .double (fun i out => CompletesFpuD i s d out) (GivesNanD s d) (GivesInfD s d) (GivesZeroD s d) where
  nan := by
    rintro i sig ⟨t, ht, _, _, hval, ⟨ha, _, _⟩, hcauses⟩ invalid hsig
    change t.fpair d = quietNan64 s.drawn at hval
    rw [hval] at ha
    refine ⟨t, sig, ht, hval ▸ isNan64_quietNan64 _, hval ▸ (quietNan64_bits _).2, ?_, hsig, hcauses⟩
    exact Bool.eq_false_iff.2 (mt ha.1 (not_not.2 (isNan64_quietNan64 _)))
  inf := by
    rintro i neg byZero ⟨t, ht, _, _, hval, hflags, hcauses⟩
    exact ⟨t, ht, hval.trans (inf_bits64 neg _), hflags, hcauses⟩
  zero := by
    rintro i neg ⟨t, ht, _, _, hval, hflags, hcauses⟩
    exact ⟨t, ht, hval.trans (zero_bits64 neg _), hflags, hcauses⟩

/-- Settles O30: the four instructions are the four operations, and the operations follow the classes. -/
theorem fpuSpecialOperands : Obligations.FpuSpecialOperands := by
  intro s d a b hf
  obtain ⟨_, _, _, _, single, double⟩ := fpuCompletes s d a b hf
  refine ⟨?single, fun hd ha hb => ?double⟩
  case single =>
    obtain ⟨hadd, hsub, hmult, hdiv⟩ := single _ _ rfl rfl
    refine specialOperands_of_fourOperations (outcomeRules_single s d) ⟨hadd, hsub, hmult, hdiv⟩
      (describes_unpack32 _) (describes_unpack32 _) (fun h => by rw [h]) fun h => ?_
    rw [h, BitVec.toNat_xor]
    exact unpack_xor_sign .single _
  case double =>
    obtain ⟨hadd, hsub, hmult, hdiv⟩ := double _ _ rfl rfl hd ha hb
    refine specialOperands_of_fourOperations (outcomeRules_double s d) ⟨hadd, hsub, hmult, hdiv⟩
      (describes_unpack64 _) (describes_unpack64 _) (fun h => by rw [h]) fun h => ?_
    rw [h, BitVec.toNat_xor]
    exact unpack_xor_sign .double _

end Sys2Proof.Machine

/-! SUPPORT. The cordic instructions: each is its form on its function, and a form is its checks in their order and one
write-back (spec/43_cordic_2op.md R310 to R312, spec/44_cordic_3op.md R360 to R362). -/

namespace Sys2Proof.Machine

variable {s : State} {i : Instr} {d a b : RegNum} {f1 : Config.Cordic1Fn} {f2 : Config.Cordic2Fn}

/-! ### Each instruction is its form -/

theorem exec_cordic1Word : exec (cordic1Word f1 d a) s = cordic1W f1 d a s := by cases f1 <;> rfl
theorem exec_cordic1Long : exec (cordic1Long f1 d a) s = cordic1L f1 d a s := by cases f1 <;> rfl
theorem exec_cordic1Float : exec (cordic1Float f1 d a) s = cordic1F f1 d a s := by cases f1 <;> rfl
theorem exec_cordic1Double : exec (cordic1Double f1 d a) s = cordic1D f1 d a s := by cases f1 <;> rfl
theorem exec_cordic2Word : exec (cordic2Word f2 d a b) s = cordic2W f2 d a b s := by cases f2 <;> rfl
theorem exec_cordic2Long : exec (cordic2Long f2 d a b) s = cordic2L f2 d a b s := by cases f2 <;> rfl
theorem exec_cordic2Float : exec (cordic2Float f2 d a b) s = cordic2F f2 d a b s := by cases f2 <;> rfl
theorem exec_cordic2Double : exec (cordic2Double f2 d a b) s = cordic2D f2 d a b s := by cases f2 <;> rfl

/-! ### The checks of the units (R312, R362) -/

theorem needCordic_absent (k : Result) (hc : s.params.hasCordic = false) : needCordic s k = .next (s.raise 2) :=
  if_neg (Bool.eq_false_iff.mp hc)

theorem needCordic_present (k : Result) (hc : s.params.hasCordic = true) : needCordic s k = k := if_pos hc

/-- The cordic unit is checked before the FPU. -/
theorem needCordicFpu_absent (k : Result) (hc : s.params.hasCordic = false) :
    needCordicFpu s k = .next (s.raise 2) :=
  needCordic_absent _ hc

theorem needCordicFpu_noFpu (k : Result) (hc : s.params.hasCordic = true) (hf : s.params.hasFpu = false) :
    needCordicFpu s k = .next (s.raise 9) :=
  (needCordic_present _ hc).trans (if_neg (Bool.eq_false_iff.mp hf))

theorem needCordicFpu_present (k : Result) (hc : s.params.hasCordic = true) (hf : s.params.hasFpu = true) :
    needCordicFpu s k = k :=
  (needCordic_present _ hc).trans (if_pos hf)

/-- Settles O33: the unit checks in their order, then the parity of the pairs. -/
theorem cordicTraps : Obligations.CordicTraps := by
  intro s d a b f1 f2
  refine ⟨fun hc => ?noCordic, fun hc hf => ?noFpu, fun hc ho => ⟨?odd1L, fun hf => ?odd1D⟩,
    fun hc ho => ⟨?odd2L, fun hf => ?odd2D⟩⟩
  case noCordic =>
    have integer {i : Instr} {k : Result} (hi : exec i s = needCordic s k) : Raises i s 2 :=
      raises_of_exec (by decide) (hi.trans (needCordic_absent k hc))
    have floating {i : Instr} {k : Result} (hi : exec i s = needCordicFpu s k) : Raises i s 2 :=
      raises_of_exec (by decide) (hi.trans (needCordicFpu_absent k hc))
    exact ⟨integer exec_cordic1Word, integer exec_cordic1Long, floating exec_cordic1Float,
      floating exec_cordic1Double, integer exec_cordic2Word, integer exec_cordic2Long, floating exec_cordic2Float,
      floating exec_cordic2Double⟩
  case noFpu =>
    have floating {i : Instr} {k : Result} (hi : exec i s = needCordicFpu s k) : Raises i s 9 :=
      raises_of_exec (by decide) (hi.trans (needCordicFpu_noFpu k hc hf))
    exact ⟨floating exec_cordic1Float, floating exec_cordic1Double, floating exec_cordic2Float,
      floating exec_cordic2Double⟩
  case odd1L =>
    have hform : cordic1L f1 d a s = .next (s.raise 4) := (needCordic_present _ hc).trans (unaryL_odd ho)
    exact raises_of_exec (by decide) (exec_cordic1Long.trans hform)
  case odd1D =>
    have hform : cordic1D f1 d a s = .next (s.raise 5) :=
      (needCordicFpu_present _ hc hf).trans (if_pos ((Bool.or_eq_true _ _).mpr ho))
    exact raises_of_exec (by decide) (exec_cordic1Double.trans hform)
  case odd2L =>
    have hform : cordic2L f2 d a b s = .next (s.raise 4) := (needCordic_present _ hc).trans (binaryL_odd ho)
    exact raises_of_exec (by decide) (exec_cordic2Long.trans hform)
  case odd2D =>
    have hform : cordic2D f2 d a b s = .next (s.raise 5) :=
      (needCordicFpu_present _ hc hf).trans (if_pos (odd_any_iff.mpr ho))
    exact raises_of_exec (by decide) (exec_cordic2Double.trans hform)

/-! ### Write-backs of the floating point forms -/

/-- A binary32 result in one FPR with its flags (R31). -/
theorem completesF_fpOut32 {x : Word} (h : exec i s = done (s.writeF d (fpOut32 x))) : CompletesF i s d x := by
  obtain ⟨t, ht, hwrote, hfpr⟩ := completes_setFpr h
  refine ⟨t, ht, hwrote, congrArg Fpr.val hfpr, ?_⟩
  rw [hfpr]
  exact flagsF_fpOut32 x

/-- A binary64 result in a pair, its flags on the odd register (R28). -/
theorem completesD_fpOut64 {x : Long} (h : exec i s = done (s.writeD d (fpOut64 x))) : CompletesD i s d x := by
  refine ⟨_, h, (wroteRegs_setFpr_pair s d _ _).of_draw, ?value, ?flags⟩
  case value => simp [State.fpair, State.freg, pair_ne d, fpOut64, extract_halves]
  case flags =>
    simp only [State.fpr_advance, State.fpr_writeD, if_true]
    exact flagsD_fpOut64 x _

/-- Settles O31: past the unit checks each form is one write-back. -/
theorem cordicSingle : Obligations.CordicSingle := by
  intro s d a b f1 f2 hc
  refine ⟨?word1, ?word2, fun hf => ⟨?float1, ?float2⟩⟩
  case word1 => exact completesW_aluOut (exec_cordic1Word.trans (needCordic_present _ hc))
  case word2 => exact completesW_aluOut (exec_cordic2Word.trans (needCordic_present _ hc))
  case float1 => exact completesF_fpOut32 (exec_cordic1Float.trans (needCordicFpu_present _ hc hf))
  case float2 => exact completesF_fpOut32 (exec_cordic2Float.trans (needCordicFpu_present _ hc hf))

/-! ### The pairs, on even registers -/

theorem odd_either_eq_false (hd : odd d = false) (ha : odd a = false) : (odd d || odd a) = false := by
  rw [hd, ha]; rfl

theorem unaryL_even {op : Long → AluOut 64} (hd : odd d = false) (ha : odd a = false) :
    unaryL op d a s = done (s.writeL d (op (s.pair a))) :=
  if_neg (Bool.eq_false_iff.mp (odd_either_eq_false hd ha))

theorem cordic1D_even (hc : s.params.hasCordic = true) (hf : s.params.hasFpu = true) (hd : odd d = false)
    (ha : odd a = false) :
    cordic1D f1 d a s = done (s.writeD d (fpOut64 (Config.cordic1 f1 .d (s.fpair a) s.rnd).1)) :=
  (needCordicFpu_present _ hc hf).trans (if_neg (Bool.eq_false_iff.mp (odd_either_eq_false hd ha)))

theorem cordic2D_even (hc : s.params.hasCordic = true) (hf : s.params.hasFpu = true) (hd : odd d = false)
    (ha : odd a = false) (hb : odd b = false) :
    cordic2D f2 d a b s = done (s.writeD d (fpOut64 (Config.cordic2 f2 .d (s.fpair a) (s.fpair b) s.rnd).1)) :=
  (needCordicFpu_present _ hc hf).trans (if_neg (Bool.eq_false_iff.mp (odd_any_eq_false hd ha hb)))

/-- Settles O32: past the unit checks and the parity check each form is one write-back. -/
theorem cordicPair : Obligations.CordicPair := by
  intro s d a b f1 f2 hc hd ha hb
  refine ⟨?long1, ?long2, fun hf => ⟨?double1, ?double2⟩⟩
  case long1 => exact completesL_aluOut (exec_cordic1Long.trans ((needCordic_present _ hc).trans (unaryL_even hd ha)))
  case long2 =>
    exact completesL_aluOut (exec_cordic2Long.trans ((needCordic_present _ hc).trans (binaryL_even hd ha hb)))
  case double1 => exact completesD_fpOut64 (exec_cordic1Double.trans (cordic1D_even hc hf hd ha))
  case double2 => exact completesD_fpOut64 (exec_cordic2Double.trans (cordic2D_even hc hf hd ha hb))

end Sys2Proof.Machine

/-! SUPPORT. The logic forms, bit by bit (spec/45_logic.md R391 to R398). -/

namespace Sys2Proof.Machine

variable {s : State} {i : Instr} {d a b : RegNum}

/-- Below the width, each bit of the complement is the complement of the bit. -/
theorem getLsbD_not_of_lt {n k : Nat} (x : BitVec n) (hk : k < n) : (~~~x).getLsbD k = !x.getLsbD k := by
  rw [BitVec.getLsbD_not, decide_eq_true hk, Bool.true_and]

/-- A two-source operation on pairs of even number, its c and v those of `ALU_CV` (R262, R261). -/
theorem completesL_binary_other {alu : Config.AluOp} {f : Long → Long → Long}
    (hi : exec i s = binaryL (fun x y => aluOther alu x y (f x y)) d a b s)
    (hd : odd d = false) (ha : odd a = false) (hb : odd b = false) :
    CompletesL i s d (f (s.pair a) (s.pair b)) (Config.aluCV alu 64 (s.pair a) (s.pair b)) :=
  completesL_aluOut (hi.trans (binaryL_even hd ha hb))

/-- Settles O23: each form is one write-back, past the parity check for longs, of an operation that acts on each bit
alone. -/
theorem logic : Obligations.Logic := by
  intro s d a b
  refine ⟨?invWord, ?andWord, ?orWord, ?xorWord, fun hd ha => ?invLong, fun hd ha hb => ⟨?andLong, ?orLong, ?xorLong⟩⟩
  case invWord => exact ⟨_, fun _ hk => getLsbD_not_of_lt _ hk, completesW_aluOut rfl⟩
  case andWord => exact ⟨_, fun _ => BitVec.getLsbD_and, completesW_aluOut rfl⟩
  case orWord => exact ⟨_, fun _ => BitVec.getLsbD_or, completesW_aluOut rfl⟩
  case xorWord => exact ⟨_, fun _ => BitVec.getLsbD_xor, completesW_aluOut rfl⟩
  case invLong => exact ⟨_, fun _ hk => getLsbD_not_of_lt _ hk, completesL_aluOut (unaryL_even (op := aluInv) hd ha)⟩
  case andLong => exact ⟨_, fun _ => BitVec.getLsbD_and, completesL_binary_other rfl hd ha hb⟩
  case orLong => exact ⟨_, fun _ => BitVec.getLsbD_or, completesL_binary_other rfl hd ha hb⟩
  case xorLong => exact ⟨_, fun _ => BitVec.getLsbD_xor, completesL_binary_other rfl hd ha hb⟩

end Sys2Proof.Machine

/-! SUPPORT. The control instructions: the targets and the link value as integers modulo the width of PC or of a
register, and a return field by field (spec/46_control.md R410 to R432, R441; spec/60_exceptions.md R525). -/

namespace Sys2Proof.Machine

variable {s t : State} {i : Instr} {d : RegNum}

/-! ### Targets and the link value (R441) -/

/-- A target relative to the next word is the integer sum modulo 2^30. -/
theorem relativeTarget_eq_ofInt {n : Nat} (pc : WordIdx) (dis : BitVec n) :
    pc + 1#30 + dis.signExtend 30 = BitVec.ofInt 30 (pc.toInt + 1 + dis.toInt) := by
  rw [BitVec.ofInt_add, BitVec.ofInt_add, BitVec.ofInt_toInt, BitVec.signExtend]
  rfl

theorem State.regTarget_eq_ofNat (s : State) (a : RegNum) :
    s.regTarget a = BitVec.ofNat 30 ((s.reg a).toNat / 4) := by
  rw [State.regTarget, BitVec.extractLsb', Nat.shiftRight_eq_div_pow]

/-- The link value is the byte address of the next word, modulo 2^32. -/
theorem State.linkValue_eq_ofNat (s : State) : s.linkValue = BitVec.ofNat 32 (4 * (s.pc.toNat + 1)) := by
  apply BitVec.eq_of_toNat_eq
  rw [State.linkValue, toNat_append_eq_mul_add, BitVec.toNat_add, BitVec.toNat_ofNat, BitVec.toNat_ofNat,
    BitVec.toNat_ofNat]
  omega

/-! ### j (R410) -/

theorem exec_j_bits26 {dis : BitVec 28} (h : s.params.jDispBits = .bits26) :
    exec (.j dis) s = .next { s with pc := s.pc + 1#30 + (dis.extractLsb' 0 26).signExtend 30 } := by
  change execJ dis s = _
  simp only [execJ, h]

theorem exec_j_bits28 {dis : BitVec 28} (h : s.params.jDispBits = .bits28) :
    exec (.j dis) s = .next { s with pc := s.pc + 1#30 + dis.signExtend 30 } := by
  change execJ dis s = _
  simp only [execJ, h]

/-- In an admitted word bits 27 and 26 are copies of bit 25 (spec/30_encoding.md R118). -/
theorem getLsbD_of_jumpCanonical {dis : BitVec 28} (h : Instr.jumpCanonical (.j dis) = true) {k : Nat}
    (hlo : 26 ≤ k) (hhi : k < 28) : dis.getLsbD k = dis.getLsbD 25 := by
  have hcopies : dis.extractLsb' 26 2 = (dis.extractLsb' 25 1).signExtend 2 := eq_of_beq h
  have hsign : ((dis.extractLsb' 25 1).signExtend 2).getLsbD (k - 26) = dis.getLsbD 25 := by
    obtain hk | hk : k - 26 = 0 ∨ k - 26 = 1 := by omega
    all_goals
      rw [hk, BitVec.getLsbD_signExtend, BitVec.msb_eq_getLsbD_last]
      exact BitVec.getLsbD_extractLsb' ..
  have hfield : (dis.extractLsb' 26 2).getLsbD (k - 26) = dis.getLsbD k := by
    have hk : k - 26 < 2 := by omega
    rw [BitVec.getLsbD_extractLsb', decide_eq_true hk, Bool.true_and, Nat.add_sub_cancel' hlo]
  rw [← hfield, hcopies, hsign]

/-- The two widths of `J_DISP_BITS` read one displacement in an admitted word. -/
theorem signExtend_low26_of_jumpCanonical {dis : BitVec 28} (h : Instr.jumpCanonical (.j dis) = true) :
    (dis.extractLsb' 0 26).signExtend 30 = dis.signExtend 30 := by
  have hcopy {k : Nat} := getLsbD_of_jumpCanonical h (k := k)
  have hlowSign : (dis.extractLsb' 0 26).msb = dis.getLsbD 25 := by
    rw [BitVec.msb_eq_getLsbD_last, BitVec.getLsbD_extractLsb']; rfl
  have hsign : dis.msb = dis.getLsbD 25 := (BitVec.msb_eq_getLsbD_last dis).trans (hcopy (by decide) (by decide))
  apply BitVec.eq_of_getLsbD_eq
  intro k _
  rw [BitVec.getLsbD_signExtend, BitVec.getLsbD_signExtend, hlowSign, hsign]
  by_cases hlow : k < 26
  · rw [if_pos hlow, if_pos (by omega), BitVec.getLsbD_extractLsb', decide_eq_true hlow, Bool.true_and, Nat.zero_add]
  · by_cases hfield : k < 28
    · rw [hcopy (Nat.le_of_not_lt hlow) hfield, if_neg hlow, if_pos hfield]
    · rw [if_neg hlow, if_neg hfield]

/-- Settles O34: one lemma for each width, and the two agree on the words the spec admits. -/
theorem jump : Obligations.Jump := by
  intro s dis
  refine ⟨exec_j_bits26, exec_j_bits28, fun hcanonical => ?_⟩
  rw [← relativeTarget_eq_ofInt]
  cases hwidth : s.params.jDispBits with
  | bits26 => rw [exec_j_bits26 hwidth, signExtend_low26_of_jumpCanonical hcanonical]
  | bits28 => exact exec_j_bits28 hwidth

/-! ### jr, jal, jral (R413 to R415) -/

theorem Frame.jump {gs fs : List RegNum} {as : List Word} (h : Frame s t gs fs as) (pc : WordIdx) :
    Frame s { t with pc := pc } gs fs as :=
  { h with system := { h.system with } }

/-- An instruction that writes the link value and jumps changes one register's data and PC. -/
theorem completes_link {target : WordIdx} (h : exec i s = .next { s.setReg d s.linkValue with pc := target }) :
    ∃ t, exec i s = .next t ∧ Frame s t [d] [] [] ∧ t.cr = s.cr ∧ t.pc = target
      ∧ t.gpr d = { s.gpr d with val := BitVec.ofNat 32 (4 * (s.pc.toNat + 1)) } := by
  refine ⟨_, h, ((Frame.refl s [d] [] []).setGpr (by simp) _).jump target, rfl, rfl, ?_⟩
  rw [← State.linkValue_eq_ofNat]
  exact (s.gpr_setReg d d s.linkValue).trans (if_pos rfl)

/-- Settles O35: jal and jral are one write of the link value and a jump, to targets that do not depend on it. -/
theorem registerJumpsAndLinks : Obligations.RegisterJumpsAndLinks := by
  intro s d a dis
  rw [← State.regTarget_eq_ofNat, ← relativeTarget_eq_ofInt]
  exact ⟨rfl, completes_link rfl, completes_link rfl⟩

/-! ### Branches (R416 to R432) -/

/-- A branch on the sign tests bit 31 (R420, R428). -/
theorem msb_eq_bit31 (x : Word) : x.msb = x.getLsbD 31 := BitVec.msb_eq_getLsbD_last x

theorem exec_branched {taken : Bool} {dis : BitVec 17} (h : exec i s = branch taken dis s) :
    exec i s = .next (branched s taken dis) := h

/-- Settles O36: each is `branch` on its flag. -/
theorem branches : Obligations.Branches := by
  intro s r dis
  simp only [← msb_eq_bit31]
  and_intros
  all_goals exact exec_branched rfl

/-! ### trap and rfe (R411, R412) -/

theorem exec_rfe_supervisor (hm : s.userMode = false) : exec .rfe s = .next s.leave :=
  if_neg (Bool.eq_false_iff.mp hm)

/-- The return index is the low 30 bits of a link register (R520, R525). -/
theorem returnIndex_eq_ofNat (l : Link) : l.extractLsb' 0 30 = BitVec.ofNat 30 l.toNat := by
  rw [BitVec.ofNat_toNat, BitVec.setWidth_eq_extractLsb' (by decide)]

/-- Setting the lowest bit keeps the others: CFG on return (R525). -/
theorem or_one_eq_append (c : BitVec 6) : c ||| 1#6 = c.extractLsb' 1 5 ++ 1#1 := by
  revert c
  decide

/-- Clearing the global mask MR[32] keeps MR[31:0] (R525). -/
theorem and_low32_eq_append (m : BitVec 33) : m &&& 0x0FFFFFFFF#33 = 0#1 ++ m.extractLsb' 0 32 := by
  have hmask : 0x0FFFFFFFF#33 = (BitVec.allOnes 32).setWidth 33 := rfl
  apply BitVec.eq_of_getLsbD_eq
  intro k hk
  rw [hmask, BitVec.getLsbD_and, BitVec.getLsbD_append, BitVec.getLsbD_setWidth, BitVec.getLsbD_allOnes]
  by_cases hlow : k < 32
  · simp [hlow, hk]
  · simp [hlow]

/-- A return without nesting (R525). -/
theorem State.leave_of_not_nesting (hn : s.nesting = false) :
    s.leave = { s with
      pc := BitVec.ofNat 30 (s.link 0#5).toNat, mr := 0#1 ++ s.mr.extractLsb' 0 32
      cfg := s.cfg.extractLsb' 1 5 ++ 1#1 } := by
  rw [← returnIndex_eq_ofNat, ← and_low32_eq_append, ← or_one_eq_append]
  exact if_neg (Bool.eq_false_iff.mp hn)

/-- A return with nesting, by the link register below (R525). -/
theorem State.leave_of_nesting (hn : s.nesting = true) :
    s.leave = { s with
      esp := s.esp - 1#5, pc := BitVec.ofNat 30 (s.link (s.esp - 1#5)).toNat
      cfg := s.cfg.extractLsb' 1 5 ++ 1#1 } := by
  rw [← returnIndex_eq_ofNat, ← or_one_eq_append]
  exact if_pos hn

/-- Settles O37: trap raises in both modes; rfe past the check of the mode is a return. -/
theorem trapAndReturn : Obligations.TrapAndReturn := by
  intro s
  refine ⟨raises_of_exec (by decide) rfl, fun hm => ⟨fun hn => ?flat, fun hn => ?nested⟩⟩
  case flat => exact (exec_rfe_supervisor hm).trans (congrArg _ (State.leave_of_not_nesting hn))
  case nested => exact (exec_rfe_supervisor hm).trans (congrArg _ (State.leave_of_nesting hn))

end Sys2Proof.Machine

/-! SUPPORT. The conversion forms: the checks in their order and the write-back of the value of `CNV`
(spec/47_conversion.md R450 to R462). -/

namespace Sys2Proof.Machine

variable {s : State} {i : Instr} {d a r : RegNum}

/-! ### The checks (R451) -/

theorem needFpu_absent (k : Result) (hf : s.params.hasFpu = false) : needFpu s k = .next (s.raise 8) :=
  if_neg (Bool.eq_false_iff.mp hf)

theorem needFpu_present (k : Result) (hf : s.params.hasFpu = true) : needFpu s k = k := if_pos hf

/-- The parity check of one register in front of the rest of a form. -/
def checkEven (s : State) (r : RegNum) (cause : Nat) (k : Result) : Result :=
  if odd r then .next (s.raise cause) else k

theorem checkEven_odd {cause : Nat} (k : Result) (hr : odd r = true) :
    checkEven s r cause k = .next (s.raise cause) := if_pos hr

theorem checkEven_even {cause : Nat} (k : Result) (hr : odd r = false) : checkEven s r cause k = k :=
  if_neg (Bool.eq_false_iff.mp hr)

/-! ### Each instruction is its checks, then its form -/

theorem exec_cnvf2w : exec (.cnvf2w d a) s = needFpu s (cnvToW .f2w ((s.freg a).setWidth 64) d s) := rfl
theorem exec_cnvw2f : exec (.cnvw2f d a) s = needFpu s (cnvToF .w2f ((s.reg a).setWidth 64) d s) := rfl
theorem exec_cnvd2f :
    exec (.cnvd2f d a) s = needFpu s (checkEven s a 5 (cnvToF .d2f (s.fpair a) d s)) := rfl
theorem exec_cnvl2f :
    exec (.cnvl2f d a) s = needFpu s (checkEven s a 4 (cnvToF .l2f (s.pair a) d s)) := rfl
theorem exec_cnvd2w :
    exec (.cnvd2w d a) s = needFpu s (checkEven s a 5 (cnvToW .d2w (s.fpair a) d s)) := rfl
theorem exec_cnvf2d :
    exec (.cnvf2d d a) s = needFpu s (checkEven s d 5 (cnvToD .f2d ((s.freg a).setWidth 64) d s)) := rfl
theorem exec_cnvw2d :
    exec (.cnvw2d d a) s = needFpu s (checkEven s d 5 (cnvToD .w2d ((s.reg a).setWidth 64) d s)) := rfl
theorem exec_cnvf2l :
    exec (.cnvf2l d a) s = needFpu s (checkEven s d 4 (cnvToL .f2l ((s.freg a).setWidth 64) d s)) := rfl
theorem exec_cnvl2d :
    exec (.cnvl2d d a) s = needFpu s (checkEven s d 5 (checkEven s a 4 (cnvToD .l2d (s.pair a) d s))) := rfl
theorem exec_cnvd2l :
    exec (.cnvd2l d a) s = needFpu s (checkEven s d 4 (checkEven s a 5 (cnvToL .d2l (s.fpair a) d s))) := rfl

/-- Past the check of the FPU, an odd register at the first parity check raises its cause. -/
theorem raises_checkEven {cause : Nat} {k : Result} (h : exec i s = needFpu s (checkEven s r cause k))
    (hf : s.params.hasFpu = true) (hr : odd r = true) (hk : cause < 32) : Raises i s cause :=
  raises_of_exec hk (h.trans ((needFpu_present _ hf).trans (checkEven_odd _ hr)))

/-- Past an even register, an odd one at the second parity check raises its cause. -/
theorem raises_secondCheck {cause other : Nat} {k : Result}
    (h : exec i s = needFpu s (checkEven s d other (checkEven s r cause k))) (hf : s.params.hasFpu = true)
    (hd : odd d = false) (hr : odd r = true) (hk : cause < 32) : Raises i s cause :=
  raises_checkEven (h.trans (congrArg (needFpu s) (checkEven_even _ hd))) hf hr hk

/-- Settles O39: the FPU is checked first, then the destination's parity, then the source's. -/
theorem conversionTraps : Obligations.ConversionTraps := by
  intro s d a
  refine ⟨fun hf => ?noFpu, fun hf hd => ?oddDst, fun hf ha => ?oddSrc⟩
  case noFpu =>
    have raises {i : Instr} {k : Result} (hi : exec i s = needFpu s k) : Raises i s 8 :=
      raises_of_exec (by decide) (hi.trans (needFpu_absent k hf))
    exact ⟨raises exec_cnvf2d, raises exec_cnvd2f, raises exec_cnvf2w, raises exec_cnvw2f, raises exec_cnvd2w,
      raises exec_cnvw2d, raises exec_cnvf2l, raises exec_cnvl2f, raises exec_cnvd2l, raises exec_cnvl2d⟩
  case oddDst =>
    exact ⟨raises_checkEven exec_cnvf2d hf hd (by decide), raises_checkEven exec_cnvw2d hf hd (by decide),
      raises_checkEven exec_cnvl2d hf hd (by decide), raises_checkEven exec_cnvf2l hf hd (by decide),
      raises_checkEven exec_cnvd2l hf hd (by decide)⟩
  case oddSrc =>
    refine ⟨raises_checkEven exec_cnvd2f hf ha (by decide), raises_checkEven exec_cnvd2w hf ha (by decide),
      raises_checkEven exec_cnvl2f hf ha (by decide), fun hd => ⟨?toLong, ?toDouble⟩⟩
    case toLong => exact raises_secondCheck exec_cnvd2l hf hd ha (by decide)
    case toDouble => exact raises_secondCheck exec_cnvl2d hf hd ha (by decide)

/-! ### The write-backs (R452) -/

section WriteBacks

variable {kind : Config.CnvKind} {x : Long}

theorem completesW_cnvToW (h : exec i s = cnvToW kind x d s) :
    CompletesW i s d ((cnv kind x s.rnd).1.setWidth 32) (Config.cnvCV kind x s.rnd) := by
  rw [BitVec.setWidth_eq_extractLsb' (by decide)]
  exact completesW_aluOut h

theorem completesL_cnvToL (h : exec i s = cnvToL kind x d s) :
    CompletesL i s d (cnv kind x s.rnd).1 (Config.cnvCV kind x s.rnd) :=
  completesL_aluOut h

theorem completesF_cnvToF (h : exec i s = cnvToF kind x d s) :
    CompletesF i s d ((cnv kind x s.rnd).1.setWidth 32) := by
  rw [BitVec.setWidth_eq_extractLsb' (by decide)]
  exact completesF_fpOut32 h

theorem completesD_cnvToD (h : exec i s = cnvToD kind x d s) : CompletesD i s d (cnv kind x s.rnd).1 :=
  completesD_fpOut64 h

end WriteBacks

/-- Settles O38: past the checks each conversion is one write-back. -/
theorem conversionsComplete : Obligations.ConversionsComplete := by
  intro s d a hf
  have present {i : Instr} {k : Result} (hi : exec i s = needFpu s k) : exec i s = k :=
    hi.trans (needFpu_present k hf)
  refine ⟨completesW_cnvToW (present exec_cnvf2w), completesF_cnvToF (present exec_cnvw2f), fun ha => ?evenSrc,
    fun hd => ?evenDst, fun hd ha => ?evenBoth⟩
  case evenSrc =>
    exact ⟨completesF_cnvToF ((present exec_cnvd2f).trans (checkEven_even _ ha)),
      completesF_cnvToF ((present exec_cnvl2f).trans (checkEven_even _ ha)),
      completesW_cnvToW ((present exec_cnvd2w).trans (checkEven_even _ ha))⟩
  case evenDst =>
    exact ⟨completesD_cnvToD ((present exec_cnvf2d).trans (checkEven_even _ hd)),
      completesD_cnvToD ((present exec_cnvw2d).trans (checkEven_even _ hd)),
      completesL_cnvToL ((present exec_cnvf2l).trans (checkEven_even _ hd))⟩
  case evenBoth =>
    have even {c c' : Nat} (k : Result) : checkEven s d c (checkEven s a c' k) = k :=
      (checkEven_even _ hd).trans (checkEven_even k ha)
    exact ⟨completesD_cnvToD ((present exec_cnvl2d).trans (even _)),
      completesL_cnvToL ((present exec_cnvd2l).trans (even _))⟩

end Sys2Proof.Machine

/-! SUPPORT. Numbers a format holds: the bits of a sign and a magnitude against the value they unpack to, and the
values that `exactFloat` and `exactInt` give exactly (spec/47_conversion.md R450, constraint E). -/

namespace Sys2Proof.Machine

/-! ### A sign and a magnitude, packed and unpacked -/

section Packing

variable {f : FpFmt} {neg : Bool} {mag m y : Nat} {e : Int}

/-- Every word of the format's width is a sign and a magnitude. -/
theorem signMag_signField (hy : y < 2 ^ (f.expBits + f.fracBits + 1)) :
    signMag f (signField f y) (y % 2 ^ (f.expBits + f.fracBits)) = y := by
  have hsign : (if signField f y then 2 ^ (f.expBits + f.fracBits) else 0)
      = 2 ^ (f.expBits + f.fracBits) * (y / 2 ^ (f.expBits + f.fracBits)) := by
    rw [Nat.pow_succ', ← Nat.div_lt_iff_lt_mul (Nat.two_pow_pos _)] at hy
    obtain hbit | hbit := Nat.le_one_iff_eq_zero_or_eq_one.1 (Nat.le_of_lt_succ hy)
    · simp [signField, hbit]
    · simp [signField, hbit]
  rw [signMag, hsign, Nat.div_add_mod]

theorem signMag_lt (h : mag < 2 ^ (f.expBits + f.fracBits)) :
    signMag f neg mag < 2 ^ (f.expBits + f.fracBits + 1) := by
  rw [signMag, Nat.pow_succ]
  split <;> omega

theorem signField_signMag (h : mag < 2 ^ (f.expBits + f.fracBits)) : signField f (signMag f neg mag) = neg := by
  cases neg with
  | false => simp [signField, signMag, Nat.div_eq_of_lt h]
  | true => simp [signField, signMag, Nat.add_div_left _ (Nat.two_pow_pos _), Nat.div_eq_of_lt h]

/-- The sign bit is above the fraction. -/
theorem fracField_signMag : fracField f (signMag f neg mag) = mag % 2 ^ f.fracBits := by
  cases neg with
  | false => simp [fracField, signMag]
  | true => simp [fracField, signMag, Nat.pow_add]

theorem expField_signMag (h : mag < 2 ^ (f.expBits + f.fracBits)) :
    expField f (signMag f neg mag) = mag / 2 ^ f.fracBits := by
  have hlt : mag / 2 ^ f.fracBits < 2 ^ f.expBits :=
    Nat.div_lt_of_lt_mul (by rwa [← Nat.pow_add, Nat.add_comm])
  have hpos : 0 < 2 ^ f.fracBits := Nat.two_pow_pos _
  cases neg with
  | false => simp [expField, signMag, Nat.mod_eq_of_lt hlt]
  | true =>
    rw [expField, signMag, if_pos rfl, Nat.pow_add, Nat.add_comm, Nat.add_mul_div_right _ _ hpos,
      Nat.add_mod_right, Nat.mod_eq_of_lt hlt]

theorem unpack_signMag (h : mag < 2 ^ (f.expBits + f.fracBits)) :
    unpack f (signMag f neg mag) = valueOfFields f neg (mag / 2 ^ f.fracBits) (mag % 2 ^ f.fracBits) := by
  rw [unpack_eq, signField_signMag h, expField_signMag h, fracField_signMag]

theorem FpFmt.infMag_lt (f : FpFmt) : f.infMag < 2 ^ (f.expBits + f.fracBits) := by
  rw [FpFmt.infMag, FpFmt.expMax, Nat.pow_add]
  exact Nat.mul_lt_mul_of_pos_right (Nat.sub_lt (Nat.two_pow_pos _) Nat.one_pos) (Nat.two_pow_pos _)

theorem unpack_signMag_infMag : unpack f (signMag f neg f.infMag) = .inf neg := by
  rw [unpack_signMag f.infMag_lt, FpFmt.infMag, Nat.mul_div_cancel _ (Nat.two_pow_pos _), Nat.mul_mod_left]
  simp [valueOfFields]

/-- Below infinity's the bits are a number of that magnitude. -/
theorem unpack_signMag_finite (neg : Bool) (h : mag < f.infMag) :
    ∃ m e, unpack f (signMag f neg mag) = .fin neg m e ∧ finValue false m e = magValue f mag := by
  have hexp : mag / 2 ^ f.fracBits ≠ f.expMax :=
    (Nat.div_lt_of_lt_mul (by rwa [Nat.mul_comm])).ne
  rw [unpack_signMag (h.trans f.infMag_lt), valueOfFields, if_neg hexp, magValue]
  by_cases hsub : mag < 2 ^ f.fracBits
  · rw [if_pos (Nat.div_eq_of_lt hsub), if_pos hsub, Nat.mod_eq_of_lt hsub]
    exact ⟨_, _, rfl, by simp [finValue]⟩
  · have hpos : mag / 2 ^ f.fracBits ≠ 0 := by
      rw [Ne, Nat.div_eq_zero_iff_lt (Nat.two_pow_pos _)]
      exact hsub
    rw [if_neg hpos, if_neg hsub]
    exact ⟨_, _, rfl, by simp [finValue]⟩

/-- Bits that unpack to a number are its sign and a magnitude below infinity's. -/
theorem eq_signMag_of_unpack (hy : y < 2 ^ (f.expBits + f.fracBits + 1)) (h : unpack f y = .fin neg m e) :
    ∃ mag < f.infMag, y = signMag f neg mag ∧ magValue f mag = finValue false m e := by
  have hmag : y % 2 ^ (f.expBits + f.fracBits) < 2 ^ (f.expBits + f.fracBits) := Nat.mod_lt _ (Nat.two_pow_pos _)
  have hsplit := signMag_signField hy
  generalize y % 2 ^ (f.expBits + f.fracBits) = mag at hmag hsplit
  generalize signField f y = n at hsplit
  subst hsplit
  by_cases hfin : mag < f.infMag
  · obtain ⟨m', e', hunpack, hvalue⟩ := unpack_signMag_finite n hfin
    rw [hunpack] at h
    cases h
    exact ⟨mag, hfin, rfl, hvalue.symm⟩
  · have hlt : mag / 2 ^ f.fracBits < 2 ^ f.expBits :=
      Nat.div_lt_of_lt_mul (by rwa [← Nat.pow_add, Nat.add_comm])
    have hge : f.expMax ≤ mag / 2 ^ f.fracBits :=
      (Nat.le_div_iff_mul_le (Nat.two_pow_pos _)).2 (Nat.not_lt.1 hfin)
    have hexp : mag / 2 ^ f.fracBits = f.expMax := by
      unfold FpFmt.expMax at hge ⊢
      omega
    rw [unpack_signMag hmag, valueOfFields, if_pos hexp] at h
    split at h <;> cases h

/-- The range of the numbers of a format. -/
theorem unpack_bounds (hmax : 2 ≤ f.expMax) (h : unpack f y = .fin neg m e) :
    m < 2 ^ (f.fracBits + 1) ∧ f.ulpMin ≤ e ∧ e + 2 ≤ f.ulpMin + f.expMax := by
  have hfrac : fracField f y < 2 ^ f.fracBits := Nat.mod_lt _ (Nat.two_pow_pos _)
  have hexp : expField f y < 2 ^ f.expBits := Nat.mod_lt _ (Nat.two_pow_pos _)
  have hdef : f.expMax = 2 ^ f.expBits - 1 := rfl
  rw [unpack_eq, valueOfFields] at h
  rw [Nat.pow_succ]
  split_ifs at h with hinf hzero hsub <;> cases h <;> omega

end Packing

/-! ### Values a format holds exactly -/

/-- The format has a finite number of that magnitude. -/
def FpFmt.Holds (f : FpFmt) (x : ℚ) : Prop := ∃ mag < f.infMag, magValue f mag = x

theorem magValue_zero (f : FpFmt) : magValue f 0 = 0 := by
  simp [magValue]

theorem magValue_infMag {f : FpFmt} (h : f.expMax ≠ 0) :
    magValue f f.infMag = (2 : ℚ) ^ (f.fracBits + (f.ulpMin + f.expMax - 1)) := by
  obtain ⟨E, hE⟩ := Nat.exists_eq_succ_of_ne_zero h
  have hsplit : f.infMag = E * 2 ^ f.fracBits + 2 ^ f.fracBits := by rw [FpFmt.infMag, hE, Nat.succ_mul]
  rw [hsplit, magValue_scaled f (.inr le_rfl) (Nat.pow_le_pow_right (by decide) (Nat.le_succ _)), hE,
    zpow_add₀ (by norm_num) (f.fracBits : Int), zpow_natCast, Nat.cast_succ, Nat.cast_pow, Nat.cast_ofNat,
    ← add_assoc, add_sub_cancel_right]

/-- A number with no more bits than the significand and an exponent in range is held. -/
theorem FpFmt.holds_of_bounds {f : FpFmt} (hf : 0 < f.fracBits) {m : Nat} {e : Int} (hm : m < 2 ^ (f.fracBits + 1))
    (hlo : f.ulpMin ≤ e) (hhi : e + 2 ≤ f.ulpMin + f.expMax) : f.Holds (finValue false m e) := by
  have hmax : f.expMax ≠ 0 := by omega
  obtain rfl | hm0 := eq_or_ne m 0
  · have hpos : 0 < f.infMag := Nat.mul_pos (Nat.pos_of_ne_zero hmax) (Nat.two_pow_pos _)
    exact ⟨0, hpos, by rw [magValue_zero, finValue_eq_zero_iff.2 rfl]⟩
  · have hlog : m.log2 < f.fracBits + 1 := (Nat.log2_lt hm0).2 hm
    have hlast : lastExp f m e ≤ e := max_le (by rw [leadExp]; omega) hlo
    have hkept : (lastExp f m e - e).toNat = 0 := Int.toNat_of_nonpos (Int.sub_nonpos_of_le hlast)
    have hexact : magValue f (lowMag f m e) = finValue false m e := by
      rw [(between_lowMag f hm0 e).eq_iff, hkept, pow_zero, Nat.mod_one]
    refine ⟨lowMag f m e, ?_, hexact⟩
    rw [← (magValue_strictMono f).lt_iff_lt, hexact, magValue_infMag hmax]
    calc finValue false m e < (2 : ℚ) ^ (leadExp m e + 1) := (roundsAs_finValue hf hm0 e).lt
      _ ≤ (2 : ℚ) ^ (f.fracBits + (f.ulpMin + f.expMax - 1)) :=
          zpow_le_zpow_right₀ (by norm_num) (by rw [leadExp]; omega)

/-- A magnitude's value is rounded to that magnitude, exactly. -/
theorem roundMag_of_magValue {f : FpFmt} (hf : 0 < f.fracBits) {m mag : Nat} {e : Int} (hm : m ≠ 0)
    (h : magValue f mag = finValue false m e) (neg : Bool) : roundMag f .rz neg m e = (mag, false) := by
  obtain ⟨⟨hle, hlt⟩, hinexact⟩ := roundMag_isRounded hf .rz neg hm e
  rw [← h, (magValue_strictMono f).le_iff_le] at hle
  rw [← h, (magValue_strictMono f).lt_iff_lt] at hlt
  have hmag : (roundMag f .rz neg m e).1 = mag := by omega
  refine Prod.ext hmag (Bool.eq_false_iff.2 fun hx => hinexact.1 hx ?_)
  rw [hmag, h]

/-- Constraint E: a number that the format has is packed as it is. -/
theorem exactFloat_of_magValue {f : FpFmt} (hf : 0 < f.fracBits) {m mag : Nat} {e : Int} (hmag : mag < f.infMag)
    (h : magValue f mag = finValue false m e) (neg : Bool) : exactFloat f neg m e = some (signMag f neg mag) := by
  obtain rfl | hm := eq_or_ne m 0
  · rw [finValue_eq_zero_iff.2 rfl, ← magValue_zero f] at h
    rw [(magValue_strictMono f).injective h]
    rfl
  · rw [exactFloat, if_neg hm, roundMag_of_magValue hf hm h neg]
    exact if_neg (by simpa using hmag)

/-- A number that the format holds is packed to bits of that value and sign. -/
theorem exactFloat_of_holds {f : FpFmt} (hf : 0 < f.fracBits) {neg : Bool} {m : Nat} {e : Int}
    (h : f.Holds (finValue false m e)) :
    ∃ y m' e', exactFloat f neg m e = some y ∧ y < 2 ^ (f.expBits + f.fracBits + 1)
      ∧ unpack f y = .fin neg m' e' ∧ finValue neg m' e' = finValue neg m e := by
  obtain ⟨mag, hmag, hvalue⟩ := h
  obtain ⟨m', e', hunpack, hvalue'⟩ := unpack_signMag_finite neg hmag
  refine ⟨_, m', e', exactFloat_of_magValue hf hmag hvalue neg, signMag_lt (hmag.trans f.infMag_lt), hunpack, ?_⟩
  rw [hvalue] at hvalue'
  cases neg with
  | false => exact hvalue'
  | true => rw [← Bool.not_false, finValue_neg, finValue_neg, hvalue']

/-! ### Integers -/

/-- A number that is an integer, in whole numbers. -/
theorem finValue_eq_intCast {neg : Bool} {m : Nat} {e v : Int} (h : finValue neg m e = v) :
    m * 2 ^ e.toNat = v.natAbs * 2 ^ (-e).toNat ∧ (if neg then -(v.natAbs : Int) else v.natAbs) = v := by
  have habs : finValue false m e = (v.natAbs : ℚ) := by
    rw [← abs_finValue neg, h, Nat.cast_natAbs, Int.cast_abs]
  constructor
  · have hscaled := finValue_scaled m e 0
    rw [habs, zero_sub, neg_neg, zpow_zero, mul_one_div, eq_div_iff (by positivity)] at hscaled
    exact_mod_cast hscaled.symm
  · have hpos : 0 ≤ finValue false m e := habs ▸ Nat.cast_nonneg _
    cases neg with
    | false =>
      have : (0 : Int) ≤ v := by exact_mod_cast h ▸ hpos
      simp only [Bool.false_eq_true, if_false]
      omega
    | true =>
      rw [← Bool.not_false, finValue_neg] at h
      have : (v : ℚ) ≤ 0 := by linarith
      have : v ≤ 0 := by exact_mod_cast this
      simp only [if_true]
      omega

/-- Constraint E: an integer in the signed range is given as it is. -/
theorem exactInt_of_finValue {n : Nat} {neg : Bool} {m : Nat} {e v : Int} (h : finValue neg m e = v)
    (hlo : -2 ^ (n - 1) ≤ v) (hhi : v < 2 ^ (n - 1)) : exactInt n neg m e = some (BitVec.ofInt n v) := by
  obtain ⟨hwhole, hsign⟩ := finValue_eq_intCast h
  have hpos : 0 < 2 ^ (-e).toNat := Nat.two_pow_pos _
  rw [exactInt, hwhole, Nat.mul_mod_left, if_pos rfl, Nat.mul_div_cancel _ hpos]
  simp only [hsign]
  exact if_pos ⟨hlo, hhi⟩

/-- Both formats hold an integer of few significant bits. -/
theorem FpFmt.holds_natAbs {f : FpFmt} (hf : f = .single ∨ f = .double) {v : Int} {sig k : Nat}
    (hv : v.natAbs = sig * 2 ^ k) (hsig : sig < 2 ^ (f.fracBits + 1)) (hbound : v.natAbs < 2 ^ 64) :
    f.Holds (finValue false v.natAbs 0) := by
  obtain ⟨hlo, hhi⟩ : f.ulpMin ≤ 0 ∧ (65 : Int) ≤ f.ulpMin + f.expMax := by
    obtain rfl | rfl := hf <;> decide
  obtain ⟨hfrac, _⟩ := FpFmt.bits_pos hf
  obtain hzero | hne := eq_or_ne sig 0
  · rw [hv, hzero, Nat.zero_mul]
    exact holds_of_bounds hfrac (Nat.two_pow_pos _) hlo (by omega)
  · have hk : k < 64 := by
      refine (Nat.pow_lt_pow_iff_right (by decide : 1 < 2)).1 (Nat.lt_of_le_of_lt ?_ hbound)
      exact hv ▸ Nat.le_mul_of_pos_left _ (Nat.pos_of_ne_zero hne)
    have hvalue : finValue false v.natAbs 0 = finValue false sig k := by simp [finValue, hv]
    rw [hvalue]
    exact holds_of_bounds hfrac hsig (by omega) (by omega)

end Sys2Proof.Machine

/-! SUPPORT. What the conversions give where constraint E fixes it (spec/47_conversion.md R450). -/

namespace Sys2Proof.Machine

variable {s : State} {i : Instr} {d : RegNum} {kind : Config.CnvKind} {x : Long}

/-! ### `CNV` where constraint E fixes it, by kind -/

/-- A 32-bit source stands in the low bits. -/
theorem low_setWidth (w : Word) : (w.setWidth 64).extractLsb' 0 32 = w := by
  rw [← BitVec.setWidth_eq_extractLsb' (by decide), BitVec.setWidth_setWidth_of_le w (by decide), BitVec.setWidth_eq]

section Kinds

variable {w : Word} {n : Bool} {m : Nat} {e : Int}

theorem cnvExact_w2f : cnvExact .w2f (w.setWidth 64) =
    (exactFloat .single (decide (w.toInt < 0)) w.toInt.natAbs 0).map (BitVec.ofNat 64) := by
  simp only [cnvExact, low_setWidth]

theorem cnvExact_w2d : cnvExact .w2d (w.setWidth 64) =
    (exactFloat .double (decide (w.toInt < 0)) w.toInt.natAbs 0).map (BitVec.ofNat 64) := by
  simp only [cnvExact, low_setWidth]

theorem cnvExact_l2f : cnvExact .l2f x =
    (exactFloat .single (decide (x.toInt < 0)) x.toInt.natAbs 0).map (BitVec.ofNat 64) := rfl

theorem cnvExact_l2d : cnvExact .l2d x =
    (exactFloat .double (decide (x.toInt < 0)) x.toInt.natAbs 0).map (BitVec.ofNat 64) := rfl

theorem cnvExact_f2w (h : unpack .single w.toNat = .fin n m e) :
    cnvExact .f2w (w.setWidth 64) = (exactInt 32 n m e).map (BitVec.setWidth 64) := by
  simp only [cnvExact, low_setWidth, h]

theorem cnvExact_d2w (h : unpack .double x.toNat = .fin n m e) :
    cnvExact .d2w x = (exactInt 32 n m e).map (BitVec.setWidth 64) := by
  simp only [cnvExact, h]

theorem cnvExact_f2l (h : unpack .single w.toNat = .fin n m e) :
    cnvExact .f2l (w.setWidth 64) = (exactInt 64 n m e).map (BitVec.setWidth 64) := by
  simp only [cnvExact, low_setWidth, h]

theorem cnvExact_d2l (h : unpack .double x.toNat = .fin n m e) :
    cnvExact .d2l x = (exactInt 64 n m e).map (BitVec.setWidth 64) := by
  simp only [cnvExact, h]

theorem cnvExact_f2d_inf (h : unpack .single w.toNat = .inf n) :
    cnvExact .f2d (w.setWidth 64) = some (BitVec.ofNat 64 (signMag .double n FpFmt.double.infMag)) := by
  simp only [cnvExact, low_setWidth, h]

theorem cnvExact_f2d_fin (h : unpack .single w.toNat = .fin n m e) :
    cnvExact .f2d (w.setWidth 64) = (exactFloat .double n m e).map (BitVec.ofNat 64) := by
  simp only [cnvExact, low_setWidth, h]

theorem cnvExact_d2f_inf (h : unpack .double x.toNat = .inf n) :
    cnvExact .d2f x = some (BitVec.ofNat 64 (signMag .single n FpFmt.single.infMag)) := by
  simp only [cnvExact, h]

theorem cnvExact_d2f_fin (h : unpack .double x.toNat = .fin n m e) :
    cnvExact .d2f x = (exactFloat .single n m e).map (BitVec.ofNat 64) := by
  simp only [cnvExact, h]

end Kinds

theorem cnv_of_exact {y : Long} (h : cnvExact kind x = some y) (rnd : Config.Rnd) : (cnv kind x rnd).1 = y := by
  rw [cnv, h, Option.getD_some]

/-! ### The destination of a conversion whose value is exact -/

theorem completesF_exact {y : Nat} (h : CompletesF i s d ((cnv kind x s.rnd).1.setWidth 32))
    (hx : cnvExact kind x = some (BitVec.ofNat 64 y)) (hy : y < 2 ^ 32) :
    ∃ t, exec i s = .next t ∧ (t.freg d).toNat = y := by
  obtain ⟨t, ht, _, hval, _⟩ := h
  refine ⟨t, ht, ?_⟩
  rw [hval, cnv_of_exact hx, BitVec.setWidth_ofNat_of_le (by decide), BitVec.toNat_ofNat, Nat.mod_eq_of_lt hy]

theorem completesD_exact {y : Nat} (h : CompletesD i s d (cnv kind x s.rnd).1)
    (hx : cnvExact kind x = some (BitVec.ofNat 64 y)) (hy : y < 2 ^ 64) :
    ∃ t, exec i s = .next t ∧ (t.fpair d).toNat = y := by
  obtain ⟨t, ht, _, hval, _⟩ := h
  refine ⟨t, ht, ?_⟩
  rw [hval, cnv_of_exact hx, BitVec.toNat_ofNat, Nat.mod_eq_of_lt hy]

section ToInteger

variable {cv : BitVec 2} {n : Bool} {m : Nat} {e v : Int}

theorem completesW_exactInt (h : CompletesW i s d ((cnv kind x s.rnd).1.setWidth 32) cv)
    (hx : cnvExact kind x = (exactInt 32 n m e).map (BitVec.setWidth 64)) (hv : finValue n m e = v)
    (hlo : -2 ^ 31 ≤ v) (hhi : v < 2 ^ 31) : ∃ t, exec i s = .next t ∧ (t.reg d).toInt = v := by
  obtain ⟨t, ht, _, hval, _⟩ := h
  rw [exactInt_of_finValue hv hlo hhi, Option.map_some] at hx
  refine ⟨t, ht, ?_⟩
  rw [hval, cnv_of_exact hx, BitVec.setWidth_setWidth_of_le _ (by decide), BitVec.setWidth_eq]
  exact BitVec.toInt_ofInt_eq_self (by decide) hlo hhi

theorem completesL_exactInt (h : CompletesL i s d (cnv kind x s.rnd).1 cv)
    (hx : cnvExact kind x = (exactInt 64 n m e).map (BitVec.setWidth 64)) (hv : finValue n m e = v)
    (hlo : -2 ^ 63 ≤ v) (hhi : v < 2 ^ 63) : ∃ t, exec i s = .next t ∧ (t.pair d).toInt = v := by
  obtain ⟨t, ht, _, hval, _⟩ := h
  rw [exactInt_of_finValue hv hlo hhi, Option.map_some, BitVec.setWidth_eq] at hx
  refine ⟨t, ht, ?_⟩
  rw [hval, cnv_of_exact hx]
  exact BitVec.toInt_ofInt_eq_self (by decide) hlo hhi

end ToInteger

/-- Settles O41: the four conversions to integers give what `exactInt` gives. -/
theorem floatToIntegerExact : Obligations.FloatToIntegerExact := by
  intro s d a n m e v hf hv
  obtain ⟨hf2w, _, evenSrc, evenDst, evenBoth⟩ := conversionsComplete s d a hf
  refine ⟨fun hsrc => ?f2w, fun ha hsrc => ?d2w, fun hd hsrc => ?f2l, fun hd ha hsrc => ?d2l⟩
  case f2w => exact completesW_exactInt hf2w (cnvExact_f2w hsrc) hv
  case d2w =>
    obtain ⟨_, _, hd2w⟩ := evenSrc ha
    exact completesW_exactInt hd2w (cnvExact_d2w hsrc) hv
  case f2l =>
    obtain ⟨_, _, hf2l⟩ := evenDst hd
    exact completesL_exactInt hf2l (cnvExact_f2l hsrc) hv
  case d2l =>
    obtain ⟨_, hd2l⟩ := evenBoth hd ha
    exact completesL_exactInt hd2l (cnvExact_d2l hsrc) hv

/-! ### A number that the destination's format holds -/

section ToFloat

variable {n : Bool} {m : Nat} {e : Int}

theorem completesF_holds (h : CompletesF i s d ((cnv kind x s.rnd).1.setWidth 32))
    (hx : cnvExact kind x = (exactFloat .single n m e).map (BitVec.ofNat 64))
    (hm : FpFmt.single.Holds (finValue false m e)) :
    ∃ t m' e', exec i s = .next t ∧ unpack .single (t.freg d).toNat = .fin n m' e'
      ∧ finValue n m' e' = finValue n m e := by
  obtain ⟨y, m', e', hy, hlt, hunpack, hvalue⟩ := exactFloat_of_holds (by decide) (neg := n) hm
  rw [hy, Option.map_some] at hx
  obtain ⟨t, ht, rfl⟩ := completesF_exact h hx hlt
  exact ⟨t, m', e', ht, hunpack, hvalue⟩

theorem completesD_holds (h : CompletesD i s d (cnv kind x s.rnd).1)
    (hx : cnvExact kind x = (exactFloat .double n m e).map (BitVec.ofNat 64))
    (hm : FpFmt.double.Holds (finValue false m e)) :
    ∃ t m' e', exec i s = .next t ∧ unpack .double (t.fpair d).toNat = .fin n m' e'
      ∧ finValue n m' e' = finValue n m e := by
  obtain ⟨y, m', e', hy, hlt, hunpack, hvalue⟩ := exactFloat_of_holds (by decide) (neg := n) hm
  rw [hy, Option.map_some] at hx
  obtain ⟨t, ht, rfl⟩ := completesD_exact h hx hlt
  exact ⟨t, m', e', ht, hunpack, hvalue⟩

end ToFloat

section OfInteger

variable {v : Int}

/-- Sign and magnitude of an integer are the integer, and the sign of 0 is plus. -/
theorem finValue_signed (v : Int) : finValue (decide (v < 0)) v.natAbs 0 = v := by
  rw [finValue_intCast, zpow_zero, mul_one]

theorem ne_zero_of_decide_neg (h : decide (v < 0) = true) : v ≠ 0 := (of_decide_eq_true h).ne

theorem completesF_integer (h : CompletesF i s d ((cnv kind x s.rnd).1.setWidth 32))
    (hx : cnvExact kind x = (exactFloat .single (decide (v < 0)) v.natAbs 0).map (BitVec.ofNat 64))
    (hv : FpFmt.single.Holds (finValue false v.natAbs 0)) :
    ∃ t n m e, exec i s = .next t ∧ unpack .single (t.freg d).toNat = .fin n m e ∧ finValue n m e = (v : ℚ)
      ∧ (n = true → v ≠ 0) := by
  obtain ⟨t, m, e, ht, hunpack, hvalue⟩ := completesF_holds h hx hv
  exact ⟨t, _, m, e, ht, hunpack, hvalue.trans (finValue_signed v), ne_zero_of_decide_neg⟩

theorem completesD_integer (h : CompletesD i s d (cnv kind x s.rnd).1)
    (hx : cnvExact kind x = (exactFloat .double (decide (v < 0)) v.natAbs 0).map (BitVec.ofNat 64))
    (hv : FpFmt.double.Holds (finValue false v.natAbs 0)) :
    ∃ t n m e, exec i s = .next t ∧ unpack .double (t.fpair d).toNat = .fin n m e ∧ finValue n m e = (v : ℚ)
      ∧ (n = true → v ≠ 0) := by
  obtain ⟨t, m, e, ht, hunpack, hvalue⟩ := completesD_holds h hx hv
  exact ⟨t, _, m, e, ht, hunpack, hvalue.trans (finValue_signed v), ne_zero_of_decide_neg⟩

end OfInteger

theorem natAbs_toInt_le {k : Nat} (y : BitVec k) : y.toInt.natAbs ≤ 2 ^ (k - 1) := by
  have hlo := BitVec.le_toInt y
  have hhi := BitVec.toInt_lt (x := y)
  zify
  exact abs_le.2 ⟨hlo, hhi.le⟩

/-- Settles O40: few significant bits make a number that the format holds. -/
theorem integerToFloatExact : Obligations.IntegerToFloatExact := by
  intro s d a sig k hf
  obtain ⟨_, hw2f, evenSrc, evenDst, evenBoth⟩ := conversionsComplete s d a hf
  have hword : (s.reg a).toInt.natAbs ≤ 2 ^ 31 := natAbs_toInt_le _
  have hlong : (s.pair a).toInt.natAbs ≤ 2 ^ 63 := natAbs_toInt_le _
  refine ⟨fun hd => ?w2d, fun hd ha hv hsig => ?l2d, fun hv hsig => ?w2f, fun ha hv hsig => ?l2f⟩
  case w2d =>
    obtain ⟨_, hw2d, _⟩ := evenDst hd
    have hsig : (s.reg a).toInt.natAbs < 2 ^ (FpFmt.double.fracBits + 1) := Nat.lt_of_le_of_lt hword (by decide)
    exact completesD_integer hw2d cnvExact_w2d (FpFmt.holds_natAbs (k := 0) (.inr rfl) (by simp) hsig (by omega))
  case l2d =>
    obtain ⟨hl2d, _⟩ := evenBoth hd ha
    exact completesD_integer hl2d cnvExact_l2d (FpFmt.holds_natAbs (.inr rfl) hv hsig (by omega))
  case w2f => exact completesF_integer hw2f cnvExact_w2f (FpFmt.holds_natAbs (.inl rfl) hv hsig (by omega))
  case l2f =>
    obtain ⟨_, hl2f, _⟩ := evenSrc ha
    exact completesF_integer hl2f cnvExact_l2f (FpFmt.holds_natAbs (.inl rfl) hv hsig (by omega))

/-! ### Between the float formats -/

/-- Every number of binary32 is one of binary64. -/
theorem double_holds_of_unpack_single {n : Bool} {m y : Nat} {e : Int} (h : unpack .single y = .fin n m e) :
    FpFmt.double.Holds (finValue false m e) := by
  obtain ⟨hm, hlo, hhi⟩ := unpack_bounds (by decide) h
  have hulp : FpFmt.double.ulpMin ≤ FpFmt.single.ulpMin := by decide
  have htop : FpFmt.single.ulpMin + FpFmt.single.expMax ≤ FpFmt.double.ulpMin + FpFmt.double.expMax := by decide
  exact FpFmt.holds_of_bounds (by decide) (hm.trans (by decide)) (hulp.trans hlo) (hhi.trans htop)

/-- A number that a float has is packed to the bits of that float. -/
theorem exactFloat_of_unpack_single {n : Bool} {m m' : Nat} {e e' : Int} {x : Word}
    (h : unpack .single x.toNat = .fin n m' e') (hv : finValue n m' e' = finValue n m e) :
    exactFloat .single n m e = some x.toNat := by
  obtain ⟨mag, hmag, hx, hvalue⟩ := eq_signMag_of_unpack (f := .single) x.isLt h
  rw [← abs_finValue n, hv, abs_finValue] at hvalue
  rw [hx]
  exact exactFloat_of_magValue (by decide) hmag hvalue n

/-- Settles O42: infinities by their bits, numbers because the destination's format holds them. -/
theorem floatToDoubleExact : Obligations.FloatToDoubleExact := by
  intro s d a n hf
  obtain ⟨_, _, evenSrc, evenDst, _⟩ := conversionsComplete s d a hf
  refine ⟨fun hd => ?f2d, fun ha => ?d2f⟩
  case f2d =>
    obtain ⟨hf2d, _⟩ := evenDst hd
    refine ⟨fun hsrc => ?inf, fun m e hsrc => ?fin⟩
    case inf =>
      obtain ⟨t, ht, hbits⟩ := completesD_exact hf2d (cnvExact_f2d_inf hsrc) (signMag_lt (FpFmt.infMag_lt _))
      exact ⟨t, ht, hbits ▸ unpack_signMag_infMag⟩
    case fin => exact completesD_holds hf2d (cnvExact_f2d_fin hsrc) (double_holds_of_unpack_single hsrc)
  case d2f =>
    obtain ⟨hd2f, _⟩ := evenSrc ha
    refine ⟨fun hsrc => ?inf, fun m m' e e' x hsrc hx hv => ?fin⟩
    case inf =>
      obtain ⟨t, ht, hbits⟩ := completesF_exact hd2f (cnvExact_d2f_inf hsrc) (signMag_lt (FpFmt.infMag_lt _))
      exact ⟨t, ht, hbits ▸ unpack_signMag_infMag⟩
    case fin =>
      have hexact := cnvExact_d2f_fin hsrc
      rw [exactFloat_of_unpack_single hx hv, Option.map_some] at hexact
      obtain ⟨t, ht, hbits⟩ := completesF_exact hd2f hexact x.isLt
      exact ⟨t, ht, BitVec.eq_of_toNat_eq hbits⟩

end Sys2Proof.Machine

/-! SUPPORT. What an entry writes and which cause detection enters (spec/60_exceptions.md R506, R507, R520). -/

namespace Sys2Proof.Machine

variable {s t : State} {k : Nat}

/-! ### Bits set and cleared by an entry -/

/-- Clearing one bit keeps the others. -/
theorem getLsbD_and_not_bit {n : Nat} (c : BitVec n) (k j : Nat) :
    (c &&& ~~~(1#n <<< k)).getLsbD j = (!decide (j = k) && c.getLsbD j) := by
  by_cases hj : j < n
  case neg => simp [BitVec.getLsbD_of_ge _ _ (Nat.le_of_not_lt hj)]
  case pos =>
    have hbit : (1#n <<< k).getLsbD j = decide (j = k) := by
      rw [← BitVec.twoPow_eq, BitVec.getLsbD_twoPow]
      by_cases hjk : j = k
      · simp [hjk, hjk ▸ hj]
      · simp [hjk, Ne.symm hjk]
    rw [BitVec.getLsbD_and, BitVec.getLsbD_not, hbit, decide_eq_true hj, Bool.true_and, Bool.and_comm]

/-- Setting the global mask MR[32] keeps MR[31:0] (R520). -/
theorem or_bit32_eq_append (m : BitVec 33) : m ||| 0x100000000#33 = 1#1 ++ m.extractLsb' 0 32 := by
  have hsplit : m.extractLsb' 32 1 ++ m.extractLsb' 0 32 = m := by
    rw [BitVec.extractLsb'_append_extractLsb'_eq_extractLsb' (start₂ := 32) rfl]
    exact extract_all m
  have hmask : 0x100000000#33 = 1#1 ++ 0#32 := rfl
  have hone : ∀ b : BitVec 1, b ||| 1#1 = 1#1 := by decide
  calc m ||| 0x100000000#33
      = (m.extractLsb' 32 1 ++ m.extractLsb' 0 32) ||| (1#1 ++ 0#32) := by rw [hsplit, hmask]
    _ = 1#1 ++ m.extractLsb' 0 32 := by rw [BitVec.or_append, hone, BitVec.or_zero]

/-! ### The fields after an entry (R520, R546) -/

/-- The return index in both values of `ASYNC_RETURN` (R547, D10; log 20). -/
theorem State.returnIdx_eq_ite (s : State) (k : Nat) :
    s.returnIdx k
      = if s.params.asyncReturn = .lastPcPlus1 ∧ (k = 1 ∨ k = 30) then s.lastPc + 1#30 else s.pc := by
  unfold State.returnIdx
  cases s.params.asyncReturn <;> simp

theorem State.pc_toNat_enter (s : State) (hk : k ≤ 31) : (s.enter k).pc.toNat = k :=
  Nat.mod_eq_of_lt (by omega)

/-- An entry clears the bit of its own cause only. -/
theorem State.cr_enter_bit (s : State) (k j : Nat) :
    (s.enter k).cr.getLsbD j = (!decide (j = k) && s.cr.getLsbD j) := by
  rw [State.enter_eq]
  exact getLsbD_and_not_bit s.cr k j

/-- An entry clears CFG[0] only. -/
theorem State.cfg_enter_bit (s : State) (k j : Nat) :
    (s.enter k).cfg.getLsbD j = (!decide (j = 0) && s.cfg.getLsbD j) := by
  rw [State.enter_eq]
  exact getLsbD_and_not_bit s.cfg 0 j

theorem State.iack_enter (s : State) (k : Nat) : (s.enter k).iack = if k = 30 then true else s.iack := by
  rw [State.enter_eq]

/-- Without nesting the return index goes to L0 and the global mask is set. -/
theorem State.saveReturn_of_not_nesting (hn : s.nesting = false) (k : Nat) :
    s.saveReturn k
      = { s.setLink 0#5 (linkWithReturn (s.link 0#5) (s.returnIdx k)) with mr := 1#1 ++ s.mr.extractLsb' 0 32 } := by
  rw [← or_bit32_eq_append]
  exact if_neg (Bool.eq_false_iff.mp hn)

/-- With nesting the return index goes to L[ESP] and the cause to the link register above. -/
theorem State.saveReturn_of_nesting (hn : s.nesting = true) (k : Nat) :
    s.saveReturn k
      = { (s.setLink s.esp (linkWithReturn (s.link s.esp) (s.returnIdx k))).setLink (s.esp + 1#5)
            (linkWithCause (s.link (s.esp + 1#5)) k) with
          esp := s.esp + 1#5 } := by
  have habove (l : Link) : (s.setLink s.esp l).link (s.esp + 1#5) = s.link (s.esp + 1#5) := by
    rw [State.link_setLink, if_neg (pair_ne s.esp).symm]
  refine (if_pos hn).trans ?_
  simp only [habove]

theorem State.link_enter_of_not_nesting (hn : s.nesting = false) (k : Nat) (j : BitVec 5) :
    (s.enter k).link j = if j = 0#5 then linkWithReturn (s.link 0#5) (s.returnIdx k) else s.link j := by
  change (s.saveReturn k).link j = _
  rw [State.saveReturn_of_not_nesting hn]
  exact State.link_setLink s 0#5 j _

theorem State.link_enter_of_nesting (hn : s.nesting = true) (k : Nat) (j : BitVec 5) :
    (s.enter k).link j
      = if j = s.esp + 1#5 then linkWithCause (s.link (s.esp + 1#5)) k
        else if j = s.esp then linkWithReturn (s.link s.esp) (s.returnIdx k) else s.link j := by
  change (s.saveReturn k).link j = _
  rw [State.saveReturn_of_nesting hn]
  refine (State.link_setLink _ (s.esp + 1#5) j _).trans ?_
  rw [State.link_setLink]

/-- Settles O43, field by field; the link registers, MR and ESP by the two cases of nesting. -/
theorem entryEffect : Obligations.EntryEffect := by
  rintro s _ k ret _ hk rfl hret
  obtain rfl : ret = s.returnIdx k := hret.trans (s.returnIdx_eq_ite k).symm
  refine ⟨s.pc_toNat_enter hk, ?own, fun j hj => ?others, s.cfg_enter_bit k 0, fun j hj => ?cfg, fun h => ?irq,
    fun h => ?noIrq, ?frame, fun hn => ?flat, fun hn => ?nested⟩
  case own => simp [s.cr_enter_bit]
  case others => simp [s.cr_enter_bit, hj]
  case cfg => simp [s.cfg_enter_bit, hj]
  case irq => rw [s.iack_enter, if_pos h]
  case noIrq => rw [s.iack_enter, if_neg h]
  case frame => rw [State.enter_eq]
  case flat =>
    have hlink := State.link_enter_of_not_nesting hn k
    have hsave := State.saveReturn_of_not_nesting hn k
    exact ⟨(hlink 0#5).trans (if_pos rfl), fun j hj => (hlink j).trans (if_neg hj), congrArg (·.mr) hsave,
      congrArg (·.esp) hsave⟩
  case nested =>
    have hlink := State.link_enter_of_nesting hn k
    have hsave := State.saveReturn_of_nesting hn k
    exact ⟨(hlink _).trans ((if_neg (pair_ne s.esp)).trans (if_pos rfl)), (hlink _).trans (if_pos rfl),
      fun j hlow hhigh => (hlink j).trans ((if_neg hhigh).trans (if_neg hlow)), congrArg (·.mr) hsave,
      congrArg (·.esp) hsave⟩

/-! ### Detection (R501, R506, R507) -/

/-- `L[ESP][35:30]` as a number. -/
theorem State.levelIdx_toNat (hn : s.nesting = true) : s.levelIdx.toNat = (s.link s.esp).toNat / 2 ^ 30 := by
  have hlevel : s.level = s.esp := if_pos (State.Inv.hasLrs_of_nesting hn)
  have hlt : (s.link s.esp).toNat < 2 ^ 36 := (s.link s.esp).isLt
  rw [State.levelIdx, hlevel, BitVec.extractLsb'_toNat, Nat.shiftRight_eq_div_pow]
  exact Nat.mod_eq_of_lt (by omega)

/-- `Enabled(k)` in the terms of R506. -/
theorem State.enabled_iff (s : State) (k : Nat) :
    s.enabled k = true ↔ s.mr.getLsbD k = false ∧ s.mr.getLsbD 32 = false
      ∧ (s.nesting = false ∨ k < (s.link s.esp).toNat / 2 ^ 30) := by
  unfold State.enabled
  cases hn : s.nesting with
  | false => simp
  | true => simp [State.levelIdx_toNat hn, and_assoc]

/-- The cause found is the lowest pending enabled one (R507). -/
theorem State.pendingCause_eq_some (hlow : 1 ≤ k) (hhigh : k ≤ 31) (hp : s.cr.getLsbD k = true)
    (he : s.enabled k = true) (hleast : ∀ j, 1 ≤ j → j < k → ¬(s.cr.getLsbD j = true ∧ s.enabled j = true)) :
    s.pendingCause = some k := by
  refine List.find?_range'_eq_some.mpr ⟨by rw [hp, he]; rfl, List.mem_range'_1.mpr ⟨hlow, by omega⟩, ?_⟩
  intro j hj hjk
  simpa [imp_iff_not_or] using hleast j hj hjk

/-- Nothing is found when no cause is pending and enabled. -/
theorem State.pendingCause_eq_none (h : ∀ j, 1 ≤ j → j ≤ 31 → ¬(s.cr.getLsbD j = true ∧ s.enabled j = true)) :
    s.pendingCause = none := by
  refine List.find?_range'_eq_none.mpr fun j hj hj' => ?_
  simpa [imp_iff_not_or] using h j hj (by omega)

theorem State.detect_of_some (h : s.pendingCause = some k) : s.detect = s.enter k := by
  simp only [State.detect, h]

theorem State.detect_of_none (h : s.pendingCause = none) : s.detect = s := by
  simp only [State.detect, h]

/-- Settles O44: a Reset leaves no cause pending. -/
theorem detectionEntersLowestEnabled : Obligations.DetectionEntersLowestEnabled := by
  intro s enabled henabled
  have hiff (j : Nat) : enabled j ↔ s.enabled j = true := (henabled j).trans (s.enabled_iff j).symm
  simp only [hiff]
  refine ⟨fun k hlow hhigh hp he hleast => ?lowest, fun h => ?none, fun evs rest hs hr => ?reset⟩
  case lowest =>
    have hd := State.detect_of_some (State.pendingCause_eq_some hlow hhigh hp he hleast)
    exact ⟨hd, fun j hj => by rw [hd, s.cr_enter_bit, decide_eq_false hj]; rfl⟩
  case none => exact State.detect_of_none (State.pendingCause_eq_none h)
  case reset =>
    rw [State.environment_of_reset hs hr]
    refine ⟨State.detect_of_none (State.pendingCause_eq_none ?_), rfl⟩
    rintro j _ _ ⟨hpending, _⟩
    exact Bool.false_ne_true (BitVec.getLsbD_zero.symm.trans hpending)

end Sys2Proof.Machine

/-! SUPPORT. What user mode protects and what changes the mode (spec/60_exceptions.md R530, R531). -/

namespace Sys2Proof.Machine

variable {s t : State}

/-! ### Instructions -/

/-- The system changes in supervisor mode only, and by rfe and movw2s only (R530). -/
theorem Effect.sameSystem {i : Instr} (h : Effect s i t)
    (hi : s.cfg.getLsbD 0 = true ∨ i ≠ .rfe ∧ ∀ k r, i ≠ .movw2s k r) : SameSystem s t ∧ t.ir = s.ir := by
  cases h with
  | ordinary o => exact ⟨o.system, o.ir⟩
  | storeB | storeH | storeW | storeF => exact ⟨by constructor <;> simp, by simp⟩
  | leave hm =>
    obtain huser | ⟨hne, _⟩ := hi
    · exact absurd huser (Bool.eq_false_iff.mp hm)
    · exact absurd rfl hne
  | writeSpr hm _ =>
    obtain huser | ⟨_, hne⟩ := hi
    · exact absurd huser (Bool.eq_false_iff.mp hm)
    · exact absurd rfl (hne _ _)

/-- Settles O56, by the inversion lemma of `exec`. -/
theorem userModeKeepsSystem : Obligations.UserModeKeepsSystem := fun _ _ _ h hi => (exec_effect h).sameSystem hi

/-- movw2s writes CFG for the number 0 only (spec/10_state.md R61). -/
theorem State.cfg_of_writeSpr {k : RegNum} {v : Word} (h : s.writeSpr k v = some t) : k = 0#5 ∨ t.cfg = s.cfg := by
  obtain ⟨rfl, _⟩ | ⟨_, rfl⟩ | ⟨_, rfl⟩ | ⟨_, rfl⟩ | ⟨_, rfl⟩ | ⟨_, rfl⟩ := State.writeSpr_some h
  · exact .inl rfl
  all_goals exact .inr rfl

/-- An instruction that changes the mode is rfe or movw2s to CFG, in supervisor mode (R531). -/
theorem Effect.of_mode_ne {i : Instr} (h : Effect s i t) (hne : t.cfg.getLsbD 0 ≠ s.cfg.getLsbD 0) :
    s.cfg.getLsbD 0 = false ∧ (i = .rfe ∨ ∃ a, i = .movw2s 0#5 a) := by
  cases h with
  | ordinary o => exact absurd (by rw [o.system.cfg]) hne
  | storeB | storeH | storeW | storeF => exact absurd (by simp) hne
  | leave hm => exact ⟨hm, .inl rfl⟩
  | writeSpr hm hw =>
    obtain rfl | hcfg := State.cfg_of_writeSpr hw
    · exact ⟨hm, .inr ⟨_, rfl⟩⟩
    · exact absurd (by rw [State.cfg_advance, hcfg]) hne

/-- A return gives user mode (R525). -/
theorem State.cfg_leave_mode (s : State) : s.leave.cfg.getLsbD 0 = true := by
  rw [State.leave_eq]
  simp

/-! ### The environment and the step -/

/-- Of the events only Reset writes CFG. -/
theorem State.cfg_event {e : EnvEvent} (he : e ≠ .reset) : (s.event e).cfg = s.cfg := by
  cases e with
  | reset => exact absurd rfl he
  | tick => exact congrArg (·.cfg) s.timerTick_eq
  | irqRaise post => cases post <;> rfl
  | peripheralPost => rfl

theorem State.cfg_environment (hn : .reset ∉ s.inputs.headD []) : s.environment.cfg = s.cfg := by
  rw [State.environment_eq hn]
  refine List.foldlRecOn (motive := fun u : State => u.cfg = s.cfg) _ _ rfl fun u hu e he => ?_
  have hne : e ≠ .reset := fun h => hn (mem_clocked_reset.mp (h ▸ he))
  exact (State.cfg_event hne).trans hu

/-- A step that neither resets nor enters leaves user mode alone (R531). -/
theorem step_keeps_user_mode (hs : step s = .next t) (hu : s.cfg.getLsbD 0 = true) (hn : .reset ∉ s.inputs.headD [])
    (hp : s.environment.pendingCause = none) : t.cfg.getLsbD 0 = true := by
  have hbegin (w : Word) : (s.begin.fetched w).cfg.getLsbD 0 = true := by
    rw [State.cfg_fetched, State.begin, State.detect_of_none hp, State.cfg_environment hn, hu]
  obtain ⟨w, ⟨i, hi⟩ | rfl⟩ := step_next hs
  · by_contra ht
    obtain ⟨hsuper, _⟩ := (exec_effect hi).of_mode_ne (by rwa [hbegin w])
    exact Bool.false_ne_true (hsuper.symm.trans (hbegin w))
  · exact hbegin w

/-- Settles O57, clause by clause; the step's by contradiction with `step_keeps_user_mode`. -/
theorem modeTransitions : Obligations.ModeTransitions := by
  intro s
  refine ⟨fun evs rest hs hr => ?reset, fun k => s.cfg_enter_bit k 0, fun hm => ⟨?rfe, fun a => ?movw2s⟩,
    fun i t hi hne => (exec_effect hi).of_mode_ne hne, fun t hs hu ht => ?step⟩
  case reset =>
    rw [State.environment_of_reset hs hr]
    exact BitVec.getLsbD_zero
  case rfe => exact ⟨_, exec_rfe_supervisor hm, s.cfg_leave_mode⟩
  case movw2s =>
    obtain ⟨hmode, _⟩ := s.writeCfg_cfg_bits (s.reg a)
    obtain ⟨hexec, _⟩ := exec_movw2s_cfg (r := a) hm
    exact ⟨_, hexec, hmode⟩
  case step =>
    by_cases hr : .reset ∈ s.inputs.headD []
    · exact .inl (inputs_of_mem_headD hr)
    · exact .inr fun hp => Bool.false_ne_true (ht.symm.trans (step_keeps_user_mode hs hu hr hp))

/-! ### Privileged instructions in user mode (R530) -/

/-- Settles O4: the check of the mode comes first in each. -/
theorem privilegedInUserModeRaises : Obligations.PrivilegedInUserModeRaises := fun _ _ _ hu =>
  ⟨raises_of_exec (by decide) (if_pos hu), raises_of_exec (by decide) (if_pos hu),
    raises_of_exec (by decide) (if_pos hu)⟩

end Sys2Proof.Machine

/-! SUPPORT. Division by zero, the timer, the environment's events and the step on a word that decodes
(spec/60_exceptions.md R501, R516, R541, R547). -/

namespace Sys2Proof.Machine

variable {s t : State} {d a b : RegNum}

/-! ### Division by zero (R516) -/

theorem divideW_zero {op : Word → Word → AluOut 32} (hz : s.reg b = 0#32) :
    divideW op d a b s = .next (s.raise 6) :=
  if_pos hz

theorem divideL_zero {op : Long → Long → AluOut 64} (hz : s.pair b = 0#64) (hd : odd d = false) (ha : odd a = false)
    (hb : odd b = false) : divideL op d a b s = .next (s.raise 7) :=
  (if_neg (Bool.eq_false_iff.mp (odd_any_eq_false hd ha hb))).trans (if_pos hz)

/-- Settles O20: the divisor is checked first for words, after the parity for longs. -/
theorem divideByZeroRaises : Obligations.DivideByZeroRaises := by
  refine fun s d a b => ⟨fun hz => ?word, fun hz hd ha hb => ?long⟩
  case word => exact ⟨raises_of_exec (by decide) (divideW_zero hz), raises_of_exec (by decide) (divideW_zero hz)⟩
  case long =>
    exact ⟨raises_of_exec (by decide) (divideL_zero hz hd ha hb), raises_of_exec (by decide) (divideL_zero hz hd ha hb)⟩

/-! ### The timer (R541) -/

theorem State.timerTick_counts (h : 1 < s.tmr.toNat) : s.timerTick = { s with tmr := s.tmr - 1#32 } := by
  have hne : s.tmr ≠ 0#32 := by bv_omega
  have hne' : s.tmr - 1#32 ≠ 0#32 := by bv_omega
  exact (if_neg hne).trans (if_neg hne')

theorem State.timerTick_expires (h : s.tmr = 1#32) :
    s.timerTick = ({ s with tmr := 0#32 } : State).pend 1 := by
  have hzero : s.tmr - 1#32 = 0#32 := by rw [h]; rfl
  have hne : s.tmr ≠ 0#32 := by rw [h]; decide
  refine (if_neg hne).trans ((if_pos hzero).trans ?_)
  rw [hzero]

theorem State.timerTick_reloads (h : s.tmr = 0#32) (hstop : s.cfg.getLsbD 2 = false) :
    s.timerTick = { s with tmr := s.reload } :=
  (if_pos h).trans (if_neg (Bool.eq_false_iff.mp hstop))

theorem State.timerTick_stopped (h : s.tmr = 0#32) (hstop : s.cfg.getLsbD 2 = true) : s.timerTick = s :=
  (if_pos h).trans (if_pos hstop)

/-- Pending a cause sets its bit and changes no other part of the state (R504). -/
theorem State.exists_pend (s : State) {k : Nat} (hk : k < 32) :
    ∃ cr, s.pend k = { s with cr := cr } ∧ cr.getLsbD k = true ∧ ∀ j, j ≠ k → cr.getLsbD j = s.cr.getLsbD j :=
  ⟨_, rfl, (raised_raise s hk).cause, (raised_raise s hk).others⟩

/-- Settles O45, by the value of TMR before the tick. -/
theorem timerTick : Obligations.TimerTick := by
  refine fun s => ⟨State.timerTick_counts, fun h => ?expires, fun h hstop => ?reloads, fun h hstop => ?stopped⟩
  case expires =>
    rw [State.timerTick_expires (BitVec.eq_of_toNat_eq h)]
    exact State.exists_pend { s with tmr := 0#32 } (by decide)
  case reloads =>
    rw [State.timerTick_reloads (BitVec.eq_of_toNat_eq h) hstop, ← s.reload_toNat, BitVec.ofNat_toNat,
      BitVec.setWidth_eq]
  case stopped => exact State.timerTick_stopped (BitVec.eq_of_toNat_eq h) hstop

/-! ### The environment (R501, R544, R547; log 3) -/

theorem clocked_of_tick {evs : List EnvEvent} (h : .tick ∈ evs) : clocked evs = evs := if_pos h

theorem clocked_of_no_tick {evs : List EnvEvent} (h : .tick ∉ evs) : clocked evs = evs ++ [.tick] := if_neg h

/-- Without a Reset an input is its clocked events in order. -/
theorem State.environment_cons {evs : List EnvEvent} {rest : List (List EnvEvent)} (hs : s.inputs = evs :: rest)
    (hn : .reset ∉ evs) : s.environment = (clocked evs).foldl State.event { s with inputs := rest } := by
  rw [State.environment_eq (by simpa [hs] using hn), hs]
  rfl

theorem State.environment_nil (hs : s.inputs = []) : s.environment = s.timerTick := by
  have hsame : ({ s with inputs := s.inputs.tail } : State) = s := by rw [hs, List.tail_nil, ← hs]
  rw [State.environment_eq (by simp [hs]), hsame, hs]
  rfl

/-- Settles O47; the environment's clauses by whether the input holds a tick. -/
theorem environmentEvents : Obligations.EnvironmentEvents := by
  intro s pra prd
  refine ⟨?input, State.environment_nil, rfl, ?irq, rfl⟩
  case input =>
    rintro evs rest _ hs hn rfl
    rw [State.environment_cons hs hn]
    refine ⟨fun h => by rw [clocked_of_tick h], fun h => ?_⟩
    rw [clocked_of_no_tick h, List.foldl_append]
    rfl
  case irq =>
    obtain ⟨cr, hpend, hbit, hothers⟩ := s.exists_pend (k := 30) (by decide)
    have hirq : s.irqRaise = { s with cr := cr, iack := false } := by rw [State.irqRaise, hpend]
    exact ⟨cr, hirq, hbit, hothers, congrArg (State.post · pra prd) hirq⟩

/-! ### The step on a word that decodes (R501, R128) -/

theorem State.codeWord_of_bytes {p : WordIdx} {b0 b1 b2 b3 : Byte} (h0 : s.im.read (4 * p.toNat) = some b0)
    (h1 : s.im.read (4 * p.toNat + 1) = some b1) (h2 : s.im.read (4 * p.toNat + 2) = some b2)
    (h3 : s.im.read (4 * p.toNat + 3) = some b3) : s.codeWord p = some (wordOfBytes b0 b1 b2 b3) := by
  simp only [State.codeWord, h0, h1, h2, h3]

/-- The timer does not see the inputs to come. -/
theorem State.timerTick_withInputs (s : State) (rest : List (List EnvEvent)) :
    ({ s with inputs := rest } : State).timerTick = { s.timerTick with inputs := rest } := by
  unfold State.timerTick
  simp only [apply_ite (fun u : State => { u with inputs := rest })]
  rfl

/-- An input of one tick, listed or not, is that tick. -/
theorem State.environment_of_tick {rest : List (List EnvEvent)}
    (hs : s.inputs = [] :: rest ∨ s.inputs = [.tick] :: rest) :
    s.environment = { s.timerTick with inputs := rest } := by
  rw [← State.timerTick_withInputs]
  obtain hs | hs := hs
  · exact State.environment_cons hs (by simp)
  · exact State.environment_cons hs (by simp)

/-- Settles O48: the four bytes are the word fetched, and detection finds nothing after the tick. -/
theorem stepRunsDecoded : Obligations.StepRunsDecoded := by
  rintro s _ b0 b1 b2 b3 i rfl h0 h1 h2 h3 hbytes
  refine ⟨?runs, fun rest hs hp => ?quiet⟩
  case runs =>
    have hdecode : decode s.begin.params (wordOfBytes b0 b1 b2 b3) = .ok i := congrArg Prod.fst (Option.some.inj hbytes)
    exact cycle_ok (State.codeWord_of_bytes h0 h1 h2 h3) hdecode
  case quiet =>
    rw [State.environment_of_tick hs]
    exact State.detect_of_none hp

end Sys2Proof.Machine

/-! SUPPORT. The machine at rest: ticks change the timer and its cause only, a masked cause is not entered, and the
self-jump leads back to its own word (spec/60_exceptions.md R506, R541; spec/70_reset_and_hazards.md R593). -/

namespace Sys2Proof.Machine

variable {s t u : State}

/-! ### What ticks can change (R541) -/

/-- `t` is `s` but for TMR and CR[1]. -/
def TimerOnly (s t : State) : Prop :=
  ∃ tmr cr, t = { s with tmr := tmr, cr := cr } ∧ ∀ j, j ≠ 1 → cr.getLsbD j = s.cr.getLsbD j

theorem TimerOnly.refl (s : State) : TimerOnly s s := ⟨s.tmr, s.cr, rfl, fun _ _ => rfl⟩

theorem TimerOnly.trans (h : TimerOnly s t) (g : TimerOnly t u) : TimerOnly s u := by
  obtain ⟨_, _, rfl, hcr⟩ := h
  obtain ⟨tmr, cr, rfl, gcr⟩ := g
  exact ⟨tmr, cr, rfl, fun j hj => (gcr j hj).trans (hcr j hj)⟩

/-- Setting TMR and then pending E1 is all that a tick that expires the timer does. -/
theorem TimerOnly.expire (s : State) (tmr : Word) : TimerOnly s (({ s with tmr := tmr } : State).pend 1) := by
  obtain ⟨cr, hpend, _, hothers⟩ := ({ s with tmr := tmr } : State).exists_pend (k := 1) (by decide)
  exact ⟨tmr, cr, hpend, hothers⟩

theorem TimerOnly.setTmr (s : State) (tmr : Word) : TimerOnly s { s with tmr := tmr } :=
  ⟨tmr, s.cr, rfl, fun _ _ => rfl⟩

/-- The cases of a tick are the values of TMR: above 1, 1, and 0 with and without automatic stop. -/
theorem State.timerTick_timerOnly (s : State) : TimerOnly s s.timerTick := by
  obtain hcount | hone | hzero : 1 < s.tmr.toNat ∨ s.tmr = 1#32 ∨ s.tmr = 0#32 := by bv_omega
  · rw [State.timerTick_counts hcount]
    exact .setTmr s _
  · rw [State.timerTick_expires hone]
    exact .expire s _
  · cases hstop : s.cfg.getLsbD 2 with
    | false =>
      rw [State.timerTick_reloads hzero hstop]
      exact .setTmr s _
    | true =>
      rw [State.timerTick_stopped hzero hstop]
      exact .refl s

theorem foldl_event_timerOnly {evs : List EnvEvent} (h : ∀ e ∈ evs, e = .tick) (s : State) :
    TimerOnly s (evs.foldl State.event s) := by
  induction evs generalizing s with
  | nil => exact .refl s
  | cons e rest ih =>
    obtain ⟨rfl, hrest⟩ := List.forall_mem_cons.mp h
    exact s.timerTick_timerOnly.trans (ih hrest s.timerTick)

theorem clocked_ticks {evs : List EnvEvent} (h : ∀ e ∈ evs, e = .tick) : ∀ e ∈ clocked evs, e = .tick := by
  unfold clocked
  split
  · exact h
  · exact List.forall_mem_append.mpr ⟨h, List.forall_mem_singleton.mpr rfl⟩

/-- An input without any event but ticks reaches the timer only, also where it is empty and the clock's own tick
comes (R544). -/
theorem State.environment_timerOnly {evs : List EnvEvent} {rest : List (List EnvEvent)} (hs : s.inputs = evs :: rest)
    (h : ∀ e ∈ evs, e = .tick) : TimerOnly { s with inputs := rest } s.environment := by
  have hn : .reset ∉ evs := fun hr => nomatch h _ hr
  rw [State.environment_cons hs hn]
  exact foldl_event_timerOnly (clocked_ticks h) _

/-! ### Masked causes (R506, R507) -/

/-- Where no cause is found, none is pending and enabled. -/
theorem State.not_enabled_of_pendingCause_none (h : s.pendingCause = none) {j : Nat} (hlow : 1 ≤ j)
    (hhigh : j ≤ 31) : ¬(s.cr.getLsbD j = true ∧ s.enabled j = true) := by
  have hj := List.find?_range'_eq_none.mp h j hlow (by omega)
  simpa [imp_iff_not_or] using hj

/-- A cause with its own mask bit or the mask of all causes set is not enabled. -/
theorem State.not_enabled_of_masked {k : Nat} (h : s.mr.getLsbD k = true ∨ s.mr.getLsbD 32 = true) :
    ¬s.enabled k = true := by
  intro he
  obtain ⟨hown, hall, _⟩ := (s.enabled_iff k).mp he
  obtain h | h := h
  · exact Bool.eq_false_iff.mp hown h
  · exact Bool.eq_false_iff.mp hall h

/-- With its cause masked the timer brings no entry about. -/
theorem TimerOnly.pendingCause_none (h : TimerOnly s t) (hp : s.pendingCause = none)
    (hm : s.mr.getLsbD 1 = true ∨ s.mr.getLsbD 32 = true) : t.pendingCause = none := by
  obtain ⟨tmr, cr, rfl, hcr⟩ := h
  refine State.pendingCause_eq_none ?_
  rintro j hlow hhigh ⟨hpending, henabled⟩
  by_cases hj : j = 1
  · subst hj
    exact State.not_enabled_of_masked hm henabled
  · exact State.not_enabled_of_pendingCause_none hp hlow hhigh ⟨(hcr j hj).symm.trans hpending, henabled⟩

/-! ### The self-jump (R410, R593) -/

/-- The self-jump's word is `j` with displacement -1, its 28 bits all ones. -/
theorem decode_selfJump (p : Config.Params) : decode p 0x0FFFFFFF#32 = .ok (.j 0x0FFFFFFF#28) :=
  decode_of_select (select_type0 (by decide)) (by decide)

/-- In either width of `J_DISP_BITS` the displacement takes the next word back to this one. -/
theorem exec_selfJump (s : State) : exec (.j 0x0FFFFFFF#28) s = .next s := by
  have hback : s.pc + 1#30 + (-1#30) = s.pc := by bv_omega
  cases hwidth : s.params.jDispBits with
  | bits26 =>
    have hdis : ((0x0FFFFFFF#28).extractLsb' 0 26).signExtend 30 = -1#30 := by decide
    rw [exec_j_bits26 hwidth, hdis, hback]
  | bits28 =>
    have hdis : (0x0FFFFFFF#28).signExtend 30 = -1#30 := by decide
    rw [exec_j_bits28 hwidth, hdis, hback]

/-- A step that begins at the self-jump fetches it and stays. -/
theorem step_selfJump (hw : s.begin.codeWord s.begin.pc = some 0x0FFFFFFF#32) :
    step s = .next (s.begin.fetched 0x0FFFFFFF#32) :=
  (cycle_ok hw (decode_selfJump _)).trans (exec_selfJump _)

/-- Settles O60: the ticks reach the timer only, so detection finds nothing and the step runs the self-jump. -/
theorem atRestStaysAtRest : Obligations.AtRestStaysAtRest := by
  intro s n rest hs hw hp hm
  have henv : TimerOnly { s with inputs := rest } s.environment :=
    State.environment_timerOnly hs fun _ he => List.eq_of_mem_replicate he
  have hbegin : s.begin = s.environment := State.detect_of_none (henv.pendingCause_none hp hm)
  obtain ⟨tmr, cr, htimer, hcr⟩ := hbegin ▸ henv
  have hcode : s.begin.codeWord s.begin.pc = some 0x0FFFFFFF#32 := by rw [htimer]; exact hw
  refine ⟨tmr, cr, ?_, hcr⟩
  rw [step_selfJump hcode, htimer]
  rfl

end Sys2Proof.Machine
